-- ==== Sys2Proof/Word.lean ====
section
/-!
DEFINITION. The values the core moves and the units in which its encodings come: bytes, frames, samples, the
TAP states, and one encoded unit per format of the opcode table (00_scope.md R9, 30_encoding.md).
-/

namespace Sys2Proof

/-- An output byte, a PDI data byte or a PDI command byte. -/
abbrev Byte := BitVec 8

/-- A 4-bit value: the JTAG instruction register, the PDI opcode, the argument nibble (R9). -/
abbrev Nibble := BitVec 4

/-- A size field of a PDI command byte (R88): the size in bytes, minus one. -/
abbrev SizeField := BitVec 2

/-- A 9-bit PDI serial frame (R86). -/
abbrev Frame := BitVec 9

/-- A 32-bit data shift register, IDCODE, repeat count or accumulator (R9). -/
abbrev Word := BitVec 32

/-- The sixteen TAP states, in the source's order; an enumeration without binary codes (R81). -/
inductive TapState where
  | reset | idle
  | selectDr | captureDr | shiftDr | exit1Dr | pauseDr | exit2Dr | updateDr
  | selectIr | captureIr | shiftIr | exit1Ir | pauseIr | exit2Ir | updateIr
deriving DecidableEq, Repr

/-- One input sample, taken on one bus-clock edge (R80). -/
structure Sample where
  tms : Bool
  tdi : Bool
  tdo : Bool
deriving DecidableEq, Repr

/-- What selects an instruction, one constructor per format of the opcode table. -/
inductive Encoded where
  /-- format tap_state: the current TAP state and the sample taken in it (R81, R100) -/
  | tapState (state : TapState) (sample : Sample)
  /-- format ir4: the committed JTAG instruction (R82) -/
  | ir4 (value : Nibble)
  /-- format pdi_frame9: a serial frame pdddddddd (R86) -/
  | pdiFrame9 (frame : Frame)
  /-- format pdi_cmd8: a command byte ooooaabb (R87) -/
  | pdiCmd8 (byte : Byte)
  /-- format out_frame: the bytes of one output frame, its tag first (R92) -/
  | outFrame (bytes : List Byte)
deriving DecidableEq, Repr

end Sys2Proof
end

