-- ==== Sys2Proof/Config.lean ====
section
/-!
DEFINITION. The parameters no source fixes (00_scope.md R10; 92_eei_decisions.md D1, D2, D3, D13). A state carries
one `Config` that no step writes, so a statement about every state holds for every value of the parameters.
-/

namespace Sys2Proof

/-- `P_SELIR0`: the successor of SELECT-IR on tms = 0 (R102, D1). -/
inductive SelIr0 where
  | captureIr | captureDr
deriving DecidableEq, Repr, Inhabited

/-- `IDCODE_SRC`: the data shift register that becomes the IDCODE (R122, D2). -/
inductive IdcodeSrc where
  | tdi | tdo
deriving DecidableEq, Repr, Inhabited

/-- The parameters of R10. -/
structure Config where
  selIr0 : SelIr0
  idcodeSrc : IdcodeSrc
  irIdcode : Nibble
  irPdicom : Nibble
  /-- `MIN_GAP` (R69). No step reads it: its meaning in steps is the premise `Safety.BusSlow`. -/
  minGap : Nat
deriving DecidableEq, Repr, Inhabited

/-- What R10 says of the parameters: the two codes are distinct and `MIN_GAP` is positive. -/
abbrev Config.Legal (c : Config) : Prop := c.irPdicom ≠ c.irIdcode ∧ 0 < c.minGap

/-- `c` with an illegal choice of R10 replaced by a legal one; a legal `c` is left as it is. -/
def Config.legalize (c : Config) : Config :=
  { c with
    irPdicom := if c.irPdicom = c.irIdcode then c.irIdcode + 1 else c.irPdicom
    minGap := if c.minGap = 0 then 1 else c.minGap }

/-- The parameters of the hardware at hand before `legalize`: a constant without a body (log entry 2). -/
opaque Config.unknown : Config

/-- The parameters of the hardware at hand: some legal choice, about which nothing else is known. -/
def Config.implementation : Config := Config.unknown.legalize

/-- The values the spec's test vectors use (95_test_vectors.md, opening; `MIN_GAP` is not used by them). -/
def Config.testVectors : Config :=
  { selIr0 := .captureIr, idcodeSrc := .tdi, irIdcode := 0x3, irPdicom := 0x7, minGap := 1 }

end Sys2Proof
end

