-- ==== Sys2Proof/Syntax.lean ====
section
/-!
DEFINITION. The instructions: one constructor per row of spec/opcode_table.json.
-/

namespace Sys2Proof

/-- The 39 rows of the opcode table (00_scope.md R3). -/
inductive Instr where
  /-- TAP.RESET: a sample taken in TAP state RESET (R105) -/
  | tapReset (tms tdi tdo : Bool)
  /-- TAP.IDLE: a sample taken in TAP state IDLE (R106) -/
  | tapIdle (tms tdi tdo : Bool)
  /-- TAP.SELECT-DR: a sample taken in TAP state SELECT-DR (R107) -/
  | tapSelectDr (tms tdi tdo : Bool)
  /-- TAP.CAPTURE-DR: a sample taken in TAP state CAPTURE-DR (R108) -/
  | tapCaptureDr (tms tdi tdo : Bool)
  /-- TAP.SHIFT-DR: a sample taken in TAP state SHIFT-DR (R109) -/
  | tapShiftDr (tms tdi tdo : Bool)
  /-- TAP.EXIT1-DR: a sample taken in TAP state EXIT1-DR (R110) -/
  | tapExit1Dr (tms tdi tdo : Bool)
  /-- TAP.PAUSE-DR: a sample taken in TAP state PAUSE-DR (R111) -/
  | tapPauseDr (tms tdi tdo : Bool)
  /-- TAP.EXIT2-DR: a sample taken in TAP state EXIT2-DR (R112) -/
  | tapExit2Dr (tms tdi tdo : Bool)
  /-- TAP.UPDATE-DR: a sample taken in TAP state UPDATE-DR (R113) -/
  | tapUpdateDr (tms tdi tdo : Bool)
  /-- TAP.SELECT-IR: a sample taken in TAP state SELECT-IR (R114) -/
  | tapSelectIr (tms tdi tdo : Bool)
  /-- TAP.CAPTURE-IR: a sample taken in TAP state CAPTURE-IR (R115) -/
  | tapCaptureIr (tms tdi tdo : Bool)
  /-- TAP.SHIFT-IR: a sample taken in TAP state SHIFT-IR (R116) -/
  | tapShiftIr (tms tdi tdo : Bool)
  /-- TAP.EXIT1-IR: a sample taken in TAP state EXIT1-IR (R117) -/
  | tapExit1Ir (tms tdi tdo : Bool)
  /-- TAP.PAUSE-IR: a sample taken in TAP state PAUSE-IR (R118) -/
  | tapPauseIr (tms tdi tdo : Bool)
  /-- TAP.EXIT2-IR: a sample taken in TAP state EXIT2-IR (R119) -/
  | tapExit2Ir (tms tdi tdo : Bool)
  /-- TAP.UPDATE-IR: a sample taken in TAP state UPDATE-IR (R120) -/
  | tapUpdateIr (tms tdi tdo : Bool)
  /-- IR.IDCODE: the IDCODE branch of UPDATE-DR (R122) -/
  | irIdcode
  /-- IR.PDICOM: the PDICOM branch of UPDATE-DR (R123) -/
  | irPdicom
  /-- IR.OTHER: UPDATE-DR under any other instruction value (R124) -/
  | irOther (ir : Nibble)
  /-- PDI.FRAME: one serial frame of the active direction, parity bit `p` and data byte `d` (R142) -/
  | pdiFrame (p : Bool) (d : Byte)
  /-- PDI.LDS with size fields `aa` and `bb` (R171) -/
  | pdiLds (aa bb : SizeField)
  /-- PDI.LD with size fields `aa` and `bb` (R172) -/
  | pdiLd (aa bb : SizeField)
  /-- PDI.STS with size fields `aa` and `bb` (R173) -/
  | pdiSts (aa bb : SizeField)
  /-- PDI.ST with size fields `aa` and `bb` (R174) -/
  | pdiSt (aa bb : SizeField)
  /-- PDI.LDCS with size fields `aa` and `bb` (R175) -/
  | pdiLdcs (aa bb : SizeField)
  /-- PDI.REPEAT with size fields `aa` and `bb` (R176) -/
  | pdiRepeat (aa bb : SizeField)
  /-- PDI.STCS with size fields `aa` and `bb` (R177) -/
  | pdiStcs (aa bb : SizeField)
  /-- PDI.KEY with size fields `aa` and `bb` (R178) -/
  | pdiKey (aa bb : SizeField)
  /-- PDI.IDLE with size fields `aa` and `bb` (R179) -/
  | pdiIdle (aa bb : SizeField)
  /-- PDI.RESERVED_8 (R183) -/
  | pdiReserved8 (aa bb : SizeField)
  /-- PDI.RESERVED_9 (R183) -/
  | pdiReserved9 (aa bb : SizeField)
  /-- PDI.RESERVED_A (R183) -/
  | pdiReservedA (aa bb : SizeField)
  /-- PDI.RESERVED_B (R183) -/
  | pdiReservedB (aa bb : SizeField)
  /-- PDI.RESERVED_C (R183) -/
  | pdiReservedC (aa bb : SizeField)
  /-- PDI.RESERVED_D (R183) -/
  | pdiReservedD (aa bb : SizeField)
  /-- PDI.RESERVED_E (R183) -/
  | pdiReservedE (aa bb : SizeField)
  /-- OUT.IDCODE: emit an IDCODE frame (R201) -/
  | outIdcode (value : Word)
  /-- OUT.PDI: emit a PDI event frame (R202) -/
  | outPdi (byte : Byte)
  /-- OUT.ERROR_RESERVED: the reserved tag 0x1F, never emitted (R203, R206) -/
  | outErrorReserved
deriving DecidableEq, Repr

end Sys2Proof
end

