-- ==== Sys2Proof/Decode.lean ====
section
/-!
DEFINITION. Decoding and encoding, one encoded unit at a time, from the tables of 30_encoding.md and the opcode
table. Which formats share bit patterns and how the model tells them apart: log entry 5.
-/

namespace Sys2Proof

/-- Why a unit decodes to no instruction. Only output frames can be refused: every TAP state with a sample, every
4-bit JTAG instruction, every 9-bit frame and every command byte has a row of the opcode table. -/
inductive DecodeError where
  /-- an output frame without a tag byte -/
  | noTag
  /-- a tag other than 0x10, 0x11 and 0x1F (R92, R206) -/
  | unknownTag (tag : Byte)
  /-- fewer payload bytes than the tag's length (R92) -/
  | shortFrame (tag : Byte)
  /-- more bytes than the tag's length (R92) -/
  | longFrame (tag : Byte)
deriving DecidableEq, Repr

/-- Tag of an IDCODE frame (R92). -/
def tagIdcode : Byte := 0x10

/-- Tag of a PDI event frame (R92). -/
def tagPdi : Byte := 0x11

/-- The reserved error tag (R92, R206). -/
def tagError : Byte := 0x1F

/-- The instruction of a sample taken in TAP state `t` (R81, R100). -/
def decodeTap (t : TapState) (x : Sample) : Instr :=
  match t with
  | .reset => .tapReset x.tms x.tdi x.tdo
  | .idle => .tapIdle x.tms x.tdi x.tdo
  | .selectDr => .tapSelectDr x.tms x.tdi x.tdo
  | .captureDr => .tapCaptureDr x.tms x.tdi x.tdo
  | .shiftDr => .tapShiftDr x.tms x.tdi x.tdo
  | .exit1Dr => .tapExit1Dr x.tms x.tdi x.tdo
  | .pauseDr => .tapPauseDr x.tms x.tdi x.tdo
  | .exit2Dr => .tapExit2Dr x.tms x.tdi x.tdo
  | .updateDr => .tapUpdateDr x.tms x.tdi x.tdo
  | .selectIr => .tapSelectIr x.tms x.tdi x.tdo
  | .captureIr => .tapCaptureIr x.tms x.tdi x.tdo
  | .shiftIr => .tapShiftIr x.tms x.tdi x.tdo
  | .exit1Ir => .tapExit1Ir x.tms x.tdi x.tdo
  | .pauseIr => .tapPauseIr x.tms x.tdi x.tdo
  | .exit2Ir => .tapExit2Ir x.tms x.tdi x.tdo
  | .updateIr => .tapUpdateIr x.tms x.tdi x.tdo

/-- The decode of the committed instruction register (R82, R121). -/
def decodeIr (c : Config) (v : Nibble) : Instr :=
  if v = c.irIdcode then .irIdcode else if v = c.irPdicom then .irPdicom else .irOther v

/-- A serial frame's parity bit is `frame[8]`, its data byte `frame[7:0]` (R86). -/
def decodeFrame (f : Frame) : Instr := .pdiFrame (f.getLsbD 8) (f.extractLsb' 0 8)

/-- The command byte's opcode field, bits 7:4 (R87). -/
def opcodeField (b : Byte) : Nibble := b.extractLsb' 4 4

/-- The command byte's first size field, bits 3:2 (R87). -/
def sizeFieldA (b : Byte) : SizeField := b.extractLsb' 2 2

/-- The command byte's second size field, bits 1:0 (R87). -/
def sizeFieldB (b : Byte) : SizeField := b.extractLsb' 0 2

/-- The instruction of an opcode nibble with its size fields (R89). -/
def commandOf (nibble : Nibble) (aa bb : SizeField) : Instr :=
  match nibble.toNat with
  | 0 => .pdiLds aa bb
  | 1 => .pdiLd aa bb
  | 2 => .pdiSts aa bb
  | 3 => .pdiSt aa bb
  | 4 => .pdiLdcs aa bb
  | 5 => .pdiRepeat aa bb
  | 6 => .pdiStcs aa bb
  | 7 => .pdiKey aa bb
  | 8 => .pdiReserved8 aa bb
  | 9 => .pdiReserved9 aa bb
  | 10 => .pdiReservedA aa bb
  | 11 => .pdiReservedB aa bb
  | 12 => .pdiReservedC aa bb
  | 13 => .pdiReservedD aa bb
  | 14 => .pdiReservedE aa bb
  | _ => .pdiIdle aa bb

/-- The instruction of a command byte (R87, R89). -/
def decodeCommand (b : Byte) : Instr := commandOf (opcodeField b) (sizeFieldA b) (sizeFieldB b)

/-- An IDCODE frame's payload, most significant byte first (R92, R201). -/
def wordOfBytes (b3 b2 b1 b0 : Byte) : Word := b3 ++ b2 ++ b1 ++ b0

/-- The first output frame of a byte stream, its length given by its tag (R92), with the bytes after it. -/
def decodeOut : List Byte → Except DecodeError (Instr × List Byte)
  | [] => .error .noTag
  | t :: payload =>
    if t = tagIdcode then
      match payload with
      | b3 :: b2 :: b1 :: b0 :: rest => .ok (.outIdcode (wordOfBytes b3 b2 b1 b0), rest)
      | _ => .error (.shortFrame t)
    else if t = tagPdi then
      match payload with
      | b :: rest => .ok (.outPdi b, rest)
      | [] => .error (.shortFrame t)
    else if t = tagError then .ok (.outErrorReserved, payload)
    else .error (.unknownTag t)

/-- The instruction of one encoded unit, total, rejecting by name. -/
def decode (c : Config) : Encoded → Except DecodeError Instr
  | .tapState t x => .ok (decodeTap t x)
  | .ir4 v => .ok (decodeIr c v)
  | .pdiFrame9 f => .ok (decodeFrame f)
  | .pdiCmd8 b => .ok (decodeCommand b)
  | .outFrame bytes =>
    match decodeOut bytes with
    | .ok (i, []) => .ok i
    | .ok (_, _ :: _) => .error (.longFrame (bytes.headD 0))
    | .error e => .error e

/-- A command byte from its fields (R87). -/
def commandByte (nibble : Nibble) (aa bb : SizeField) : Byte := nibble ++ aa ++ bb

/-- A serial frame from its parity bit and data byte (R86). -/
def frameOf (p : Bool) (d : Byte) : Frame := BitVec.cons p d

/-- The bytes of an IDCODE frame (R201). -/
def idcodeFrame (v : Word) : List Byte :=
  [tagIdcode, v.extractLsb' 24 8, v.extractLsb' 16 8, v.extractLsb' 8 8, v.extractLsb' 0 8]

/-- The bytes of a PDI event frame (R202). -/
def pdiEventFrame (b : Byte) : List Byte := [tagPdi, b]

/-- The encoded unit of an instruction, from the opcode table's encodings. -/
def encode (c : Config) : Instr → Encoded
  | .tapReset tms tdi tdo => .tapState .reset ⟨tms, tdi, tdo⟩
  | .tapIdle tms tdi tdo => .tapState .idle ⟨tms, tdi, tdo⟩
  | .tapSelectDr tms tdi tdo => .tapState .selectDr ⟨tms, tdi, tdo⟩
  | .tapCaptureDr tms tdi tdo => .tapState .captureDr ⟨tms, tdi, tdo⟩
  | .tapShiftDr tms tdi tdo => .tapState .shiftDr ⟨tms, tdi, tdo⟩
  | .tapExit1Dr tms tdi tdo => .tapState .exit1Dr ⟨tms, tdi, tdo⟩
  | .tapPauseDr tms tdi tdo => .tapState .pauseDr ⟨tms, tdi, tdo⟩
  | .tapExit2Dr tms tdi tdo => .tapState .exit2Dr ⟨tms, tdi, tdo⟩
  | .tapUpdateDr tms tdi tdo => .tapState .updateDr ⟨tms, tdi, tdo⟩
  | .tapSelectIr tms tdi tdo => .tapState .selectIr ⟨tms, tdi, tdo⟩
  | .tapCaptureIr tms tdi tdo => .tapState .captureIr ⟨tms, tdi, tdo⟩
  | .tapShiftIr tms tdi tdo => .tapState .shiftIr ⟨tms, tdi, tdo⟩
  | .tapExit1Ir tms tdi tdo => .tapState .exit1Ir ⟨tms, tdi, tdo⟩
  | .tapPauseIr tms tdi tdo => .tapState .pauseIr ⟨tms, tdi, tdo⟩
  | .tapExit2Ir tms tdi tdo => .tapState .exit2Ir ⟨tms, tdi, tdo⟩
  | .tapUpdateIr tms tdi tdo => .tapState .updateIr ⟨tms, tdi, tdo⟩
  | .irIdcode => .ir4 c.irIdcode
  | .irPdicom => .ir4 c.irPdicom
  | .irOther v => .ir4 v
  | .pdiFrame p d => .pdiFrame9 (frameOf p d)
  | .pdiLds aa bb => .pdiCmd8 (commandByte 0x0 aa bb)
  | .pdiLd aa bb => .pdiCmd8 (commandByte 0x1 aa bb)
  | .pdiSts aa bb => .pdiCmd8 (commandByte 0x2 aa bb)
  | .pdiSt aa bb => .pdiCmd8 (commandByte 0x3 aa bb)
  | .pdiLdcs aa bb => .pdiCmd8 (commandByte 0x4 aa bb)
  | .pdiRepeat aa bb => .pdiCmd8 (commandByte 0x5 aa bb)
  | .pdiStcs aa bb => .pdiCmd8 (commandByte 0x6 aa bb)
  | .pdiKey aa bb => .pdiCmd8 (commandByte 0x7 aa bb)
  | .pdiIdle aa bb => .pdiCmd8 (commandByte 0xF aa bb)
  | .pdiReserved8 aa bb => .pdiCmd8 (commandByte 0x8 aa bb)
  | .pdiReserved9 aa bb => .pdiCmd8 (commandByte 0x9 aa bb)
  | .pdiReservedA aa bb => .pdiCmd8 (commandByte 0xA aa bb)
  | .pdiReservedB aa bb => .pdiCmd8 (commandByte 0xB aa bb)
  | .pdiReservedC aa bb => .pdiCmd8 (commandByte 0xC aa bb)
  | .pdiReservedD aa bb => .pdiCmd8 (commandByte 0xD aa bb)
  | .pdiReservedE aa bb => .pdiCmd8 (commandByte 0xE aa bb)
  | .outIdcode v => .outFrame (idcodeFrame v)
  | .outPdi b => .outFrame (pdiEventFrame b)
  | .outErrorReserved => .outFrame [tagError]

/-- The host's view of the decoder on numbers: 8 bits are a command byte, 16 bits hold a 9-bit serial frame, 40 bits
an IDCODE output frame, its tag in bits 7:0. TAP states have no bits (R81), the numeric JTAG codes are parameters
(R82), and a tag byte alone cannot be told from a command byte (log entry 5). -/
def decodeTableWord (nbits w : Nat) : Option Instr :=
  if w ≥ 2 ^ nbits then none
  else if nbits = 8 then some (decodeCommand (BitVec.ofNat 8 w))
  else if nbits = 16 then
    if w < 512 then some (decodeFrame (BitVec.ofNat 9 w)) else none
  else if nbits = 40 then
    match decodeOut ((List.range 5).map fun k => BitVec.ofNat 8 (w / 256 ^ k)) with
    | .ok (.outIdcode v, []) => some (.outIdcode v)
    | _ => none
  else none

end Sys2Proof
end

