-- ==== Sys2Proof/Machine/State.lean ====
section
/-!
DEFINITION. The state of the core (10_state.md R46), its power-on value, and the named updates through which every
operation writes it.
-/

namespace Sys2Proof.Machine

/-- The frame-handling states (R33, R140). -/
inductive FrameState where
  | idle | checkParity | handleWrite | handleRead | sendData | parityError
deriving DecidableEq, Repr

/-- The count/argument states (R34). -/
inductive CountState where
  | idle | decode | lds | ld | sts | st | ldcs | repeat_ | stcs | key | captureRepeat | updateRepeat
deriving DecidableEq, Repr

/-- Whose step comes next (R64): a bus step with its sample, or a step of the processing agent (R66, R67). -/
inductive Turn where
  | bus (x : Sample)
  | acceptId | acceptPdi
  | missId | missPdi
deriving DecidableEq, Repr

/-- The core has nothing that stops it: the parity error is a next state (R221), and "no behaviour of this core is
treated as fault or stuck" (93_implementation_defined.md). Safe: no claim can rest on a stop. -/
inductive Fault where
deriving DecidableEq, Repr

/-- The spec's own `refuse` is a next state with `refused` set (R14, R183), not one of these. -/
inductive Refusal where
  /-- an instruction whose meaning is not written yet; raised by no arm of `exec`. Safe. -/
  | notModelled (mnemonic : String)
deriving DecidableEq, Repr

/-- The state of R46, with the open parameters (R10) and the pending turns of the two agents (R64). -/
@[ext]
structure State where
  /-- the open parameters (R10), written by nothing -/
  cfg : Config
  /-- the TAP state (R22) -/
  tap : TapState
  /-- the committed instruction register (R23) -/
  ir : Nibble
  /-- the instruction shift register (R24) -/
  irs : Nibble
  /-- the TDI data shift register (R25) -/
  dri : Word
  /-- the TDO data shift register (R25) -/
  dro : Word
  /-- the IDCODE mailbox value (R26) -/
  idcode : Word
  /-- the IDCODE ready flag (R27) -/
  idTgl : Bool
  /-- the host-write frame of the PDI mailbox (R28) -/
  pdiW : Frame
  /-- the target-read frame of the PDI mailbox (R28) -/
  pdiR : Frame
  /-- the PDI ready flag (R29) -/
  pdiTgl : Bool
  /-- the last consumed IDCODE ready flag (R30) -/
  idSeen : Bool
  /-- the last consumed PDI ready flag (R30) -/
  pdiSeen : Bool
  /-- the current PDI opcode (R32) -/
  opcode : Nibble
  /-- the frame-handling state (R33) -/
  fs : FrameState
  /-- the count/argument state (R34) -/
  cs : CountState
  /-- the argument nibble (R35) -/
  arg : Nibble
  /-- the latched data byte (R36) -/
  data : Byte
  /-- the update-counts flag (R37) -/
  upd : Bool
  /-- bytes still to come from the host, an exact integer (R38, R184) -/
  wcnt : Nat
  /-- bytes still to come from the target, an exact integer (R38, R184) -/
  rcnt : Nat
  /-- the repeat count (R39) -/
  rep : Word
  /-- the repeat accumulator (R40) -/
  acc : Word
  /-- the output byte stream, first byte first (R41) -/
  out : List Byte
  /-- the number of parity_err pulses so far (R44) -/
  errCount : Nat
  /-- whether a `refuse` has happened (R45) -/
  refused : Bool
  /-- the turns still to come (R64, R80; log entry 1) -/
  schedule : List Turn
deriving DecidableEq, Repr

/-- The opcode value IDLE: no transaction in progress (R32). -/
def opIdle : Nibble := 0xF

/-- The opcode value REPEAT (R32). -/
def opRepeat : Nibble := 0x5

/-- The power-on state of R46 under the parameters `c`. -/
def State.powerOn (c : Config) : State :=
  { cfg := c
    tap := .reset, ir := c.irIdcode, irs := 0, dri := 0, dro := 0
    idcode := 0, idTgl := false, pdiW := 0, pdiR := 0, pdiTgl := false
    idSeen := false, pdiSeen := false
    opcode := opIdle, fs := .idle, cs := .idle, arg := 0, data := 0, upd := false
    wcnt := 0, rcnt := 0, rep := 0, acc := 0
    out := [], errCount := 0, refused := false
    schedule := [] }

/-- The machine right after power-on (R240, R241), its open parameters unknown and no turn pending. -/
def State.reset : State := State.powerOn Config.implementation

/-- Write `tap` (R100). -/
def State.setTap (s : State) (t : TapState) : State := { s with tap := t }

/-- Write `ir` (R23). -/
def State.setIr (s : State) (v : Nibble) : State := { s with ir := v }

/-- Write `irs` (R24). -/
def State.setIrs (s : State) (v : Nibble) : State := { s with irs := v }

/-- Write `dri` and `dro` (R25). -/
def State.setDataRegs (s : State) (i o : Word) : State := { s with dri := i, dro := o }

/-- Write the IDCODE mailbox (R26, R27, R65: one atomic write, the flag inverted). -/
def State.postIdcode (s : State) (v : Word) : State := { s with idcode := v, idTgl := !s.idTgl }

/-- Write the PDI mailbox (R28, R29, R65: one atomic write, the flag inverted). -/
def State.postPdi (s : State) (w r : Frame) : State := { s with pdiW := w, pdiR := r, pdiTgl := !s.pdiTgl }

/-- Consume the IDCODE ready flag (R66, R67). -/
def State.seeIdcode (s : State) : State := { s with idSeen := s.idTgl }

/-- Consume the PDI ready flag (R66, R67). -/
def State.seePdi (s : State) : State := { s with pdiSeen := s.pdiTgl }

/-- Write `opcode` (R32). -/
def State.setOpcode (s : State) (v : Nibble) : State := { s with opcode := v }

/-- Write `fs` (R33). -/
def State.setFs (s : State) (v : FrameState) : State := { s with fs := v }

/-- Write `cs` (R34). -/
def State.setCs (s : State) (v : CountState) : State := { s with cs := v }

/-- Write `arg` (R35). -/
def State.setArg (s : State) (v : Nibble) : State := { s with arg := v }

/-- Write `data` (R36). -/
def State.setData (s : State) (v : Byte) : State := { s with data := v }

/-- Write `upd` (R37). -/
def State.setUpd (s : State) (v : Bool) : State := { s with upd := v }

/-- Write `wcnt` and `rcnt` (R38). -/
def State.setCounts (s : State) (w r : Nat) : State := { s with wcnt := w, rcnt := r }

/-- Write `rep` (R39). -/
def State.setRep (s : State) (v : Word) : State := { s with rep := v }

/-- Write `acc` (R40). -/
def State.setAcc (s : State) (v : Word) : State := { s with acc := v }

/-- Append bytes to `out` (R41). -/
def State.emit (s : State) (bytes : List Byte) : State := { s with out := s.out ++ bytes }

/-- Raise the parity_err pulse, counted by `errCount` (R43, R44). -/
def State.pulseParityErr (s : State) : State := { s with errCount := s.errCount + 1 }

/-- Set the sticky flag `refused` (R45). -/
def State.setRefused (s : State) : State := { s with refused := true }

/-- Write the turns still to come (R64). -/
def State.setSchedule (s : State) (ts : List Turn) : State := { s with schedule := ts }

end Sys2Proof.Machine
end

