-- ==== Sys2Proof/Machine/Flags.lean ====
section
/-!
DEFINITION. Every flag computation: parity (R13, R86, R142), the ready toggles (R27, R29, R66) and the completion
test (R147).
-/

namespace Sys2Proof.Machine

/-- `xor_reduce(v)`, the XOR of every bit of `v` (R13). -/
def xorReduce {n : Nat} (v : BitVec n) : Bool :=
  (List.range n).foldl (fun parity k => parity ^^ v.getLsbD k) false

/-- Whether the IDCODE mailbox holds a value the processing agent has not consumed (R66). -/
def State.idPending (s : State) : Bool := s.idTgl != s.idSeen

/-- Whether the PDI mailbox holds a value the processing agent has not consumed (R66). -/
def State.pdiPending (s : State) : Bool := s.pdiTgl != s.pdiSeen

/-- SEND-DATA's test that both counters are zero (R147). -/
def State.countsDone (s : State) : Bool := s.wcnt == 0 && s.rcnt == 0

end Sys2Proof.Machine
end

