-- ==== Sys2Proof/Machine/Operands.lean ====
section
/-!
DEFINITION. Every operand form: the shifting bit, the register captures, the fields of a frame, the direction of a
frame pair, and the size fields (20_memory.md, 30_encoding.md).
-/

namespace Sys2Proof.Machine

/-- A sampled bit entering a data shift register at bit 31 (R61, R109). -/
def shiftIntoData (bit : Bool) (reg : Word) : Word := BitVec.cons bit (reg.extractLsb' 1 31)

/-- A sampled bit entering the instruction shift register at bit 3 (R62, R116). -/
def shiftIntoIr (bit : Bool) (reg : Nibble) : Nibble := BitVec.cons bit (reg.extractLsb' 1 3)

/-- The PDI frame in a data shift register: bits 30:22, bit 31 discarded (R85). -/
def frameOfDataReg (reg : Word) : Frame := reg.extractLsb' 22 9

/-- The data shift register that `IDCODE_SRC` names (R84, R122). -/
def idcodeSource (s : State) : Word :=
  match s.cfg.idcodeSrc with
  | .tdi => s.dri
  | .tdo => s.dro

/-- A frame's data byte, `frame[7:0]` (R86). -/
def frameByte (f : Frame) : Byte := f.extractLsb' 0 8

/-- The frame with even parity for a byte, `xor_reduce(b) :: b` (R86). -/
def evenFrame (b : Byte) : Frame := frameOf (xorReduce b) b

/-- Whether the active direction is host to target (R141). -/
def hostToTarget (s : State) : Bool := s.opcode == opIdle || decide (0 < s.wcnt)

/-- The frame of the active direction; the other one is ignored (R141). -/
def activeFrame (s : State) : Frame := if hostToTarget s then s.pdiW else s.pdiR

/-- A size field's size in bytes, 1 to 4 (R88). -/
def byteSize (field : SizeField) : Nat := field.toNat + 1

/-- The argument nibble of a command byte (R87). -/
def argOf (aa bb : SizeField) : Nibble := aa ++ bb

/-- The repeat-count width in bytes that the argument nibble selects, `arg[1:0] + 1` (R181). -/
def repeatWidth (arg : Nibble) : Nat := byteSize (arg.extractLsb' 0 2)

end Sys2Proof.Machine
end

