-- ==== Sys2Proof/Machine/Ops.lean ====
section
/-!
DEFINITION. The shared operations: the TAP's transition and register actions (40_tap.md), the emitter
(43_emitter.md), the phases of the frame-handling machine with the core's one exception, PARITY-ERROR, and the
return from it (41_pdi_frame.md).
-/

namespace Sys2Proof.Machine

/-- `next(s, tms)`, the transition table with the CAPTURE rows corrected (R101, R102; 90_conflicts.md C1, C2). -/
def nextTap (c : Config) : TapState → Bool → TapState
  | .reset, false => .idle
  | .reset, true => .reset
  | .idle, false => .idle
  | .idle, true => .selectDr
  | .selectDr, false => .captureDr
  | .selectDr, true => .selectIr
  | .captureDr, false => .shiftDr
  | .captureDr, true => .exit1Dr
  | .shiftDr, false => .shiftDr
  | .shiftDr, true => .exit1Dr
  | .exit1Dr, false => .pauseDr
  | .exit1Dr, true => .updateDr
  | .pauseDr, false => .pauseDr
  | .pauseDr, true => .exit2Dr
  | .exit2Dr, false => .shiftDr
  | .exit2Dr, true => .updateDr
  | .updateDr, false => .idle
  | .updateDr, true => .selectDr
  | .selectIr, false =>
    match c.selIr0 with
    | .captureIr => .captureIr
    | .captureDr => .captureDr
  | .selectIr, true => .reset
  | .captureIr, false => .shiftIr
  | .captureIr, true => .exit1Ir
  | .shiftIr, false => .shiftIr
  | .shiftIr, true => .exit1Ir
  | .exit1Ir, false => .pauseIr
  | .exit1Ir, true => .updateIr
  | .pauseIr, false => .pauseIr
  | .pauseIr, true => .exit2Ir
  | .exit2Ir, false => .shiftIr
  | .exit2Ir, true => .updateIr
  | .updateIr, false => .idle
  | .updateIr, true => .selectDr

/-- The end of a bus step taken in TAP state `t`: the state advances (R100). -/
def advanceTap (t : TapState) (tms : Bool) (s : State) : State := s.setTap (nextTap s.cfg t tms)

/-- RESET's action: the instruction register is preloaded (R105). -/
def preloadIr (s : State) : State := s.setIr s.cfg.irIdcode

/-- SHIFT-DR's action (R109). -/
def shiftData (tdi tdo : Bool) (s : State) : State :=
  s.setDataRegs (shiftIntoData tdi s.dri) (shiftIntoData tdo s.dro)

/-- SHIFT-IR's action (R116). -/
def shiftIr (tdi : Bool) (s : State) : State := s.setIrs (shiftIntoIr tdi s.irs)

/-- UPDATE-IR's action (R120). -/
def updateIr (s : State) : State := s.setIr s.irs

/-- UPDATE-DR's action under IDCODE: the IDCODE mailbox is written (R113, R122). -/
def commitIdcode (s : State) : State := s.postIdcode (idcodeSource s)

/-- UPDATE-DR's action under PDICOM: the PDI mailbox is written, parity unchecked (R113, R123). -/
def commitPdi (s : State) : State := s.postPdi (frameOfDataReg s.dri) (frameOfDataReg s.dro)

/-- UPDATE-DR's action: the branch that `ir` selects (R113, R121). -/
def updateData (s : State) : State :=
  if s.ir = s.cfg.irIdcode then commitIdcode s
  else if s.ir = s.cfg.irPdicom then commitPdi s
  else s

/-- `emit_idcode(v)`: one whole IDCODE frame (R201, R204). -/
def emitIdcode (v : Word) (s : State) : State := s.emit (idcodeFrame v)

/-- The emitter's PDI frame: tag and data byte (R202, R204). -/
def emitPdi (b : Byte) (s : State) : State := s.emit (pdiEventFrame b)

/-- The `byte_ready(b)` pulse, consumed by the emitter in the same step (R42, R202). -/
def byteReady (b : Byte) (s : State) : State := emitPdi b s

/-- Why the spec's `refuse` is called (R14). -/
inductive RefuseReason where
  | reservedOpcode | readUnderflow
deriving DecidableEq, Repr

/-- `refuse(reason)`: the sticky flag records that the source gives no meaning here (R14, R45). -/
def refuse (_reason : RefuseReason) (s : State) : State := s.setRefused

/-- Taking the core's one exception, PARITY-ERROR: the parity_err pulse, the transaction abandoned, a REPEAT capture
abandoned; nothing is saved and nothing is emitted (R150, R203, R220, R224). -/
def parityError (s : State) : State :=
  ((((s.setFs .parityError).pulseParityErr).setOpcode opIdle).setCounts 0 0).setCs .idle

/-- The return to IDLE, after SEND-DATA as after PARITY-ERROR: there is no state to restore (R149, R225). -/
def returnToIdle (s : State) : State := s.setFs .idle

/-- SEND-DATA (R147): a command byte raises no pulse; otherwise a finished transaction is closed and the latched
byte sent. -/
def sendData (s : State) : State :=
  if s.upd then (s.setFs .sendData).setUpd false
  else if s.countsDone then byteReady s.data ((s.setFs .sendData).setOpcode opIdle)
  else byteReady s.data (s.setFs .sendData)

/-- The end of every frame that passed its parity check (R147, R149). -/
def finishFrame (s : State) : State := returnToIdle (sendData s)

/-- HANDLE-WRITE on a command byte, up to the update-counts pulse (R143). -/
def latchCommand (b : Byte) (s : State) : State :=
  (((s.setFs .handleWrite).setData b).setOpcode (opcodeField b)).setUpd true

/-- UPDATE-REPEAT: `rep` from the low bytes of `acc`, as many as the argument nibble says (R181). -/
def updateRepeat (s : State) : State :=
  ((s.setCs .updateRepeat).setRep (BitVec.ofNat 32 (s.acc.toNat % 2 ^ (8 * repeatWidth s.arg)))).setCs .idle

/-- CAPTURE-REPEAT on one payload byte, `wcnt` already decremented (R180). -/
def repeatCapture (b : Byte) (s : State) : State :=
  if s.wcnt = 0 then updateRepeat (s.setAcc (s.acc.extractLsb' 0 24 ++ b))
  else s.setAcc (s.acc.extractLsb' 0 24 ++ b)

/-- HANDLE-WRITE on a data byte, with the coupling to the count machine (R144, R145). -/
def handleWriteData (b : Byte) (s : State) : State :=
  if s.cs = .captureRepeat then
    repeatCapture b (((s.setFs .handleWrite).setData b).setCounts (s.wcnt - 1) s.rcnt)
  else ((s.setFs .handleWrite).setData b).setCounts (s.wcnt - 1) s.rcnt

/-- HANDLE-READ (R146), with the refusal on an exhausted read count (R148). -/
def handleRead (b : Byte) (s : State) : State :=
  if s.rcnt = 0 then refuse .readUnderflow (((s.setFs .handleRead).setData b).setCounts s.wcnt 0)
  else ((s.setFs .handleRead).setData b).setCounts s.wcnt (s.rcnt - 1)

end Sys2Proof.Machine
end

