-- ==== Sys2Proof/Machine/Emitter.lean ====
section
/-!
DEFINITION. The frame emitter's output frames (43_emitter.md).
-/

namespace Sys2Proof.Machine

/-- The IDCODE frame: tag 0x10 and four bytes, most significant first (R201). -/
def execOutIdcode (value : Word) (s : State) : Host.Outcome State Fault Refusal := .next (emitIdcode value s)

/-- The PDI event frame: tag 0x11 and one data byte (R202). -/
def execOutPdi (byte : Byte) (s : State) : Host.Outcome State Fault Refusal := .next (emitPdi byte s)

/-- The reserved error frame is never emitted: the emitter writes nothing for an error (R203, R206; log entry 4). -/
def execOutErrorReserved (s : State) : Host.Outcome State Fault Refusal := .next s

end Sys2Proof.Machine
end

