-- ==== Sys2Proof/Machine/JtagIr.lean ====
section
/-!
DEFINITION. The decodes of the JTAG instruction register (40_tap.md R121 to R124): what UPDATE-DR does under each.
The TAP's own transition belongs to UPDATE-DR (log entry 4).
-/

namespace Sys2Proof.Machine

/-- IDCODE: the register that `IDCODE_SRC` names becomes the IDCODE value and its flag toggles (R122). -/
def execIrIdcode (s : State) : Host.Outcome State Fault Refusal := .next (commitIdcode s)

/-- PDICOM: the frame pair is taken from both shift registers and its flag toggles (R123). -/
def execIrPdicom (s : State) : Host.Outcome State Fault Refusal := .next (commitPdi s)

/-- Any other value: registers held, no error (R124). -/
def execIrOther (_ir : Nibble) (s : State) : Host.Outcome State Fault Refusal := .next s

end Sys2Proof.Machine
end

