-- ==== Sys2Proof/Machine/Count.lean ====
section
/-!
DEFINITION. The count/argument machine (42_pdi_count.md): the counts each command byte sets, the whole command
step, and the whole frame step.
-/

namespace Sys2Proof.Machine

/-- The count machine's DECODE phase: the argument nibble is latched (R170). -/
def beginCount (aa bb : SizeField) (s : State) : State := (s.setCs .decode).setArg (argOf aa bb)

/-- `(rep + 1) × size`, exact (R172, R174, R185). -/
def repeatedSize (s : State) (bb : SizeField) : Nat := (s.rep.toNat + 1) * byteSize bb

/-- LDS (R171). -/
def countLds (aa bb : SizeField) (s : State) : State :=
  ((s.setCs .lds).setCounts (byteSize aa) (byteSize bb)).setCs .idle

/-- LD (R172). -/
def countLd (bb : SizeField) (s : State) : State :=
  (((s.setCs .ld).setCounts 0 (repeatedSize s bb)).setRep 0).setCs .idle

/-- STS (R173). -/
def countSts (aa bb : SizeField) (s : State) : State :=
  ((s.setCs .sts).setCounts (byteSize aa + byteSize bb) 0).setCs .idle

/-- ST (R174). -/
def countSt (bb : SizeField) (s : State) : State :=
  (((s.setCs .st).setCounts (repeatedSize s bb) 0).setRep 0).setCs .idle

/-- LDCS (R175). -/
def countLdcs (s : State) : State := ((s.setCs .ldcs).setCounts 0 1).setCs .idle

/-- REPEAT: the machine waits in CAPTURE-REPEAT for the payload (R176). -/
def countRepeat (bb : SizeField) (s : State) : State :=
  ((s.setCs .repeat_).setCounts (byteSize bb) 0).setCs .captureRepeat

/-- STCS (R177). -/
def countStcs (s : State) : State := ((s.setCs .stcs).setCounts 1 0).setCs .idle

/-- KEY (R178). -/
def countKey (s : State) : State := ((s.setCs .key).setCounts 8 0).setCs .idle

/-- The IDLE nibble: no count is written (R179). -/
def countIdle (s : State) : State := s.setCs .idle

/-- A reserved nibble: `refuse`, no count written, the machine back in IDLE (R183). -/
def countReserved (s : State) : State := (refuse .reservedOpcode s).setCs .idle

/-- The dispatch of `count_update(b)` (R170), the argument nibble already latched. -/
def dispatchCount (nibble : Nibble) (aa bb : SizeField) (s : State) : State :=
  match nibble.toNat with
  | 0 => countLds aa bb s
  | 1 => countLd bb s
  | 2 => countSts aa bb s
  | 3 => countSt bb s
  | 4 => countLdcs s
  | 5 => countRepeat bb s
  | 6 => countStcs s
  | 7 => countKey s
  | 15 => countIdle s
  | _ => countReserved s

/-- A whole command frame around the count operation `count` of its opcode: CHECK-PARITY passed, HANDLE-WRITE,
DECODE, the opcode's state, SEND-DATA, IDLE (R143, R147, R151, R170). -/
def commandStep (nibble : Nibble) (aa bb : SizeField) (count : State → State) (s : State) : State :=
  finishFrame (count (beginCount aa bb (latchCommand (commandByte nibble aa bb) (s.setFs .checkParity))))

/-- `frame_step` on the frame `f` of the active direction (R141 to R151). -/
def frameStep (f : Frame) (s : State) : State :=
  if xorReduce f then returnToIdle (parityError (s.setFs .checkParity))
  else if s.opcode = opIdle then
    commandStep (opcodeField (frameByte f)) (sizeFieldA (frameByte f)) (sizeFieldB (frameByte f))
      (dispatchCount (opcodeField (frameByte f)) (sizeFieldA (frameByte f)) (sizeFieldB (frameByte f))) s
  else if hostToTarget s then finishFrame (handleWriteData (frameByte f) (s.setFs .checkParity))
  else finishFrame (handleRead (frameByte f) (s.setFs .checkParity))

end Sys2Proof.Machine
end

