-- ==== Sys2Proof/Machine/Pdi.lean ====
section
/-!
DEFINITION. The PDI serial frame (41_pdi_frame.md) and the command bytes (42_pdi_count.md), each as the whole
`frame_step` of the frame that carries it.
-/

namespace Sys2Proof.Machine

/-- A serial frame of the active direction, parity bit `p`, data byte `d`: PARITY-ERROR, a command byte, a write
byte or a read byte (R141 to R151). -/
def execPdiFrame (p : Bool) (d : Byte) (s : State) : Host.Outcome State Fault Refusal :=
  .next (frameStep (frameOf p d) s)

/-- LDS (R171). -/
def execPdiLds (aa bb : SizeField) (s : State) : Host.Outcome State Fault Refusal :=
  .next (commandStep 0x0 aa bb (countLds aa bb) s)

/-- LD (R172). -/
def execPdiLd (aa bb : SizeField) (s : State) : Host.Outcome State Fault Refusal :=
  .next (commandStep 0x1 aa bb (countLd bb) s)

/-- STS (R173). -/
def execPdiSts (aa bb : SizeField) (s : State) : Host.Outcome State Fault Refusal :=
  .next (commandStep 0x2 aa bb (countSts aa bb) s)

/-- ST (R174). -/
def execPdiSt (aa bb : SizeField) (s : State) : Host.Outcome State Fault Refusal :=
  .next (commandStep 0x3 aa bb (countSt bb) s)

/-- LDCS (R175). -/
def execPdiLdcs (aa bb : SizeField) (s : State) : Host.Outcome State Fault Refusal :=
  .next (commandStep 0x4 aa bb countLdcs s)

/-- REPEAT (R176). -/
def execPdiRepeat (aa bb : SizeField) (s : State) : Host.Outcome State Fault Refusal :=
  .next (commandStep 0x5 aa bb (countRepeat bb) s)

/-- STCS (R177). -/
def execPdiStcs (aa bb : SizeField) (s : State) : Host.Outcome State Fault Refusal :=
  .next (commandStep 0x6 aa bb countStcs s)

/-- KEY (R178). -/
def execPdiKey (aa bb : SizeField) (s : State) : Host.Outcome State Fault Refusal :=
  .next (commandStep 0x7 aa bb countKey s)

/-- The IDLE nibble, consumed without output (R179). -/
def execPdiIdle (aa bb : SizeField) (s : State) : Host.Outcome State Fault Refusal :=
  .next (commandStep 0xF aa bb countIdle s)

/-- Reserved nibble 0x8, with the spec's continuation (R183; log entry 6). -/
def execPdiReserved8 (aa bb : SizeField) (s : State) : Host.Outcome State Fault Refusal :=
  .next (commandStep 0x8 aa bb countReserved s)

/-- Reserved nibble 0x9, with the spec's continuation (R183; log entry 6). -/
def execPdiReserved9 (aa bb : SizeField) (s : State) : Host.Outcome State Fault Refusal :=
  .next (commandStep 0x9 aa bb countReserved s)

/-- Reserved nibble 0xA, with the spec's continuation (R183; log entry 6). -/
def execPdiReservedA (aa bb : SizeField) (s : State) : Host.Outcome State Fault Refusal :=
  .next (commandStep 0xA aa bb countReserved s)

/-- Reserved nibble 0xB, with the spec's continuation (R183; log entry 6). -/
def execPdiReservedB (aa bb : SizeField) (s : State) : Host.Outcome State Fault Refusal :=
  .next (commandStep 0xB aa bb countReserved s)

/-- Reserved nibble 0xC, with the spec's continuation (R183; log entry 6). -/
def execPdiReservedC (aa bb : SizeField) (s : State) : Host.Outcome State Fault Refusal :=
  .next (commandStep 0xC aa bb countReserved s)

/-- Reserved nibble 0xD, with the spec's continuation (R183; log entry 6). -/
def execPdiReservedD (aa bb : SizeField) (s : State) : Host.Outcome State Fault Refusal :=
  .next (commandStep 0xD aa bb countReserved s)

/-- Reserved nibble 0xE, with the spec's continuation (R183; log entry 6). -/
def execPdiReservedE (aa bb : SizeField) (s : State) : Host.Outcome State Fault Refusal :=
  .next (commandStep 0xE aa bb countReserved s)

end Sys2Proof.Machine
end

