-- ==== Sys2Proof/Machine/Tap.lean ====
section
/-!
DEFINITION. One bus step in each TAP state (40_tap.md R105 to R120): the state's action on the values before the
step, then the transition from that state (R100).
-/

namespace Sys2Proof.Machine

/-- RESET: `ir` is preloaded to IDCODE; nothing else is reset (R105). -/
def execTapReset (tms _tdi _tdo : Bool) (s : State) : Host.Outcome State Fault Refusal :=
  .next (advanceTap .reset tms (preloadIr s))

/-- IDLE: no register changes (R106). -/
def execTapIdle (tms _tdi _tdo : Bool) (s : State) : Host.Outcome State Fault Refusal :=
  .next (advanceTap .idle tms s)

/-- SELECT-DR: no register changes (R107). -/
def execTapSelectDr (tms _tdi _tdo : Bool) (s : State) : Host.Outcome State Fault Refusal :=
  .next (advanceTap .selectDr tms s)

/-- CAPTURE-DR: no register changes, the core being passive (R108). -/
def execTapCaptureDr (tms _tdi _tdo : Bool) (s : State) : Host.Outcome State Fault Refusal :=
  .next (advanceTap .captureDr tms s)

/-- SHIFT-DR: both data shift registers shift, on the exit edge too (R109). -/
def execTapShiftDr (tms tdi tdo : Bool) (s : State) : Host.Outcome State Fault Refusal :=
  .next (advanceTap .shiftDr tms (shiftData tdi tdo s))

/-- EXIT1-DR: no register changes (R110). -/
def execTapExit1Dr (tms _tdi _tdo : Bool) (s : State) : Host.Outcome State Fault Refusal :=
  .next (advanceTap .exit1Dr tms s)

/-- PAUSE-DR: the data registers hold (R111). -/
def execTapPauseDr (tms _tdi _tdo : Bool) (s : State) : Host.Outcome State Fault Refusal :=
  .next (advanceTap .pauseDr tms s)

/-- EXIT2-DR: no register changes (R112). -/
def execTapExit2Dr (tms _tdi _tdo : Bool) (s : State) : Host.Outcome State Fault Refusal :=
  .next (advanceTap .exit2Dr tms s)

/-- UPDATE-DR: the commit that `ir` selects, on the edge that leaves the state (R113). -/
def execTapUpdateDr (tms _tdi _tdo : Bool) (s : State) : Host.Outcome State Fault Refusal :=
  .next (advanceTap .updateDr tms (updateData s))

/-- SELECT-IR: no register changes; the tms = 0 successor is `P_SELIR0` (R114). -/
def execTapSelectIr (tms _tdi _tdo : Bool) (s : State) : Host.Outcome State Fault Refusal :=
  .next (advanceTap .selectIr tms s)

/-- CAPTURE-IR: no register changes (R115). -/
def execTapCaptureIr (tms _tdi _tdo : Bool) (s : State) : Host.Outcome State Fault Refusal :=
  .next (advanceTap .captureIr tms s)

/-- SHIFT-IR: the instruction shift register takes tdi (R116). -/
def execTapShiftIr (tms tdi _tdo : Bool) (s : State) : Host.Outcome State Fault Refusal :=
  .next (advanceTap .shiftIr tms (shiftIr tdi s))

/-- EXIT1-IR: no register changes (R117). -/
def execTapExit1Ir (tms _tdi _tdo : Bool) (s : State) : Host.Outcome State Fault Refusal :=
  .next (advanceTap .exit1Ir tms s)

/-- PAUSE-IR: no register changes (R118). -/
def execTapPauseIr (tms _tdi _tdo : Bool) (s : State) : Host.Outcome State Fault Refusal :=
  .next (advanceTap .pauseIr tms s)

/-- EXIT2-IR: no register changes (R119). -/
def execTapExit2Ir (tms _tdi _tdo : Bool) (s : State) : Host.Outcome State Fault Refusal :=
  .next (advanceTap .exit2Ir tms s)

/-- UPDATE-IR: `ir` takes the shifted value (R120). -/
def execTapUpdateIr (tms _tdi _tdo : Bool) (s : State) : Host.Outcome State Fault Refusal :=
  .next (advanceTap .updateIr tms (updateIr s))

end Sys2Proof.Machine
end

