-- ==== Sys2Proof/Machine/Dispatch.lean ====
section
/-!
DEFINITION. One arm per instruction, each one call of its meaning.
-/

namespace Sys2Proof.Machine

def exec (i : Instr) (s : State) : Host.Outcome State Fault Refusal :=
  match i with
  | .tapReset tms tdi tdo => Sys2Proof.Machine.execTapReset tms tdi tdo s
  | .tapIdle tms tdi tdo => Sys2Proof.Machine.execTapIdle tms tdi tdo s
  | .tapSelectDr tms tdi tdo => Sys2Proof.Machine.execTapSelectDr tms tdi tdo s
  | .tapCaptureDr tms tdi tdo => Sys2Proof.Machine.execTapCaptureDr tms tdi tdo s
  | .tapShiftDr tms tdi tdo => Sys2Proof.Machine.execTapShiftDr tms tdi tdo s
  | .tapExit1Dr tms tdi tdo => Sys2Proof.Machine.execTapExit1Dr tms tdi tdo s
  | .tapPauseDr tms tdi tdo => Sys2Proof.Machine.execTapPauseDr tms tdi tdo s
  | .tapExit2Dr tms tdi tdo => Sys2Proof.Machine.execTapExit2Dr tms tdi tdo s
  | .tapUpdateDr tms tdi tdo => Sys2Proof.Machine.execTapUpdateDr tms tdi tdo s
  | .tapSelectIr tms tdi tdo => Sys2Proof.Machine.execTapSelectIr tms tdi tdo s
  | .tapCaptureIr tms tdi tdo => Sys2Proof.Machine.execTapCaptureIr tms tdi tdo s
  | .tapShiftIr tms tdi tdo => Sys2Proof.Machine.execTapShiftIr tms tdi tdo s
  | .tapExit1Ir tms tdi tdo => Sys2Proof.Machine.execTapExit1Ir tms tdi tdo s
  | .tapPauseIr tms tdi tdo => Sys2Proof.Machine.execTapPauseIr tms tdi tdo s
  | .tapExit2Ir tms tdi tdo => Sys2Proof.Machine.execTapExit2Ir tms tdi tdo s
  | .tapUpdateIr tms tdi tdo => Sys2Proof.Machine.execTapUpdateIr tms tdi tdo s
  | .irIdcode => Sys2Proof.Machine.execIrIdcode s
  | .irPdicom => Sys2Proof.Machine.execIrPdicom s
  | .irOther ir => Sys2Proof.Machine.execIrOther ir s
  | .pdiFrame p d => Sys2Proof.Machine.execPdiFrame p d s
  | .pdiLds aa bb => Sys2Proof.Machine.execPdiLds aa bb s
  | .pdiLd aa bb => Sys2Proof.Machine.execPdiLd aa bb s
  | .pdiSts aa bb => Sys2Proof.Machine.execPdiSts aa bb s
  | .pdiSt aa bb => Sys2Proof.Machine.execPdiSt aa bb s
  | .pdiLdcs aa bb => Sys2Proof.Machine.execPdiLdcs aa bb s
  | .pdiRepeat aa bb => Sys2Proof.Machine.execPdiRepeat aa bb s
  | .pdiStcs aa bb => Sys2Proof.Machine.execPdiStcs aa bb s
  | .pdiKey aa bb => Sys2Proof.Machine.execPdiKey aa bb s
  | .pdiIdle aa bb => Sys2Proof.Machine.execPdiIdle aa bb s
  | .pdiReserved8 aa bb => Sys2Proof.Machine.execPdiReserved8 aa bb s
  | .pdiReserved9 aa bb => Sys2Proof.Machine.execPdiReserved9 aa bb s
  | .pdiReservedA aa bb => Sys2Proof.Machine.execPdiReservedA aa bb s
  | .pdiReservedB aa bb => Sys2Proof.Machine.execPdiReservedB aa bb s
  | .pdiReservedC aa bb => Sys2Proof.Machine.execPdiReservedC aa bb s
  | .pdiReservedD aa bb => Sys2Proof.Machine.execPdiReservedD aa bb s
  | .pdiReservedE aa bb => Sys2Proof.Machine.execPdiReservedE aa bb s
  | .outIdcode value => Sys2Proof.Machine.execOutIdcode value s
  | .outPdi byte => Sys2Proof.Machine.execOutPdi byte s
  | .outErrorReserved => Sys2Proof.Machine.execOutErrorReserved s

end Sys2Proof.Machine
end

