-- ==== Sys2Proof/Machine/Fetch.lean ====
section
/-!
DEFINITION. What the next turn runs: a bus step runs the instruction of the TAP state with its sample (R100), an
accept step the emitter's IDCODE frame or the PDI frame of the mailbox (R66). A turn with nothing to do changes
nothing.
-/

namespace Sys2Proof.Machine

/-- The instruction of the PDI mailbox: a command byte where a good frame arrives with no transaction open (R87,
R143), else the frame itself (log entry 4). -/
def pdiInstr (s : State) : Instr :=
  if s.opcode = opIdle ∧ xorReduce (activeFrame s) = false then decodeCommand (frameByte (activeFrame s))
  else decodeFrame (activeFrame s)

/-- The instruction that the turn `t` runs, none where the turn is a miss (R67) or finds nothing to accept. A PDI
frame is taken only in the frame machine's IDLE state (R149). -/
def turnInstr (t : Turn) (s : State) : Option Instr :=
  match t with
  | .bus x => some (decodeTap s.tap x)
  | .acceptId => if s.idPending then some (.outIdcode s.idcode) else none
  | .acceptPdi => if s.pdiPending ∧ s.fs = .idle then some (pdiInstr s) else none
  | .missId => none
  | .missPdi => none

/-- What the turn `t` does around its instruction: a processing step consumes its mailbox's flag (R66, R67). -/
def takeTurn (t : Turn) (s : State) : State :=
  match t with
  | .bus _ => s
  | .acceptId => s.seeIdcode
  | .missId => s.seeIdcode
  | .acceptPdi => s.seePdi
  | .missPdi => s.seePdi

/-- The instruction the next step runs. With no turn pending the bus is stopped (R128) and nothing runs. -/
def fetch (s : State) : Option Instr :=
  match s.schedule with
  | [] => none
  | t :: _ => turnInstr t s

/-- The state in which that instruction runs: the turn is taken out of the schedule. -/
def afterFetch (s : State) : State :=
  match s.schedule with
  | [] => s
  | t :: rest => (takeTurn t s).setSchedule rest

/-- The state in which the next step accepts the frame `f` from the PDI mailbox in the active direction. -/
def placeFrame (f : Frame) (s : State) : State :=
  if hostToTarget s then
    { s with pdiW := f, pdiTgl := !s.pdiSeen, fs := .idle, schedule := .acceptPdi :: s.schedule }
  else
    { s with pdiR := f, pdiTgl := !s.pdiSeen, fs := .idle, schedule := .acceptPdi :: s.schedule }

/-- The state in which the next step runs the instruction that `decodeTableWord nbits w` gives: a command byte comes
in an even frame with no transaction open, a serial frame as it is, an IDCODE frame from the IDCODE mailbox. -/
def placeWord (nbits w : Nat) (s : State) : State :=
  if nbits = 8 then placeFrame (evenFrame (BitVec.ofNat 8 w)) (s.setOpcode opIdle)
  else if nbits = 16 then placeFrame (BitVec.ofNat 9 w) s
  else
    match decodeTableWord nbits w with
    | some (.outIdcode v) => { s with idcode := v, idTgl := !s.idSeen, schedule := .acceptId :: s.schedule }
    | _ => s

end Sys2Proof.Machine
end

