-- ==== Sys2Proof/Machine/Step.lean ====
section
/-!
DEFINITION. One step: the next turn of the schedule (R64, R71).
-/

namespace Sys2Proof.Machine

/-- One step of the core: fetch what the next turn runs, take the turn, run it. -/
def step (s : State) : Host.Outcome State Fault Refusal :=
  match fetch s with
  | none => .next (afterFetch s)
  | some i => exec i (afterFetch s)

/-- `s` with the instruction of the word `w` placed where the next step fetches it (log entry 3). -/
def State.withFetchWord (s : State) (nbits w : Nat) : State := placeWord nbits w s

end Sys2Proof.Machine
end

