-- ==== Sys2Proof/Machine/Macros.lean ====
section
/-!
DEFINITION. The bus macros and their exact expansions into samples (30_encoding.md R95, R96).
-/

namespace Sys2Proof.Machine.Macros

/-- The sample written as tms, tdi, tdo (R95). -/
def sample (tms tdi tdo : Bool) : Sample := ⟨tms, tdi, tdo⟩

/-- A sample with tdi = tdo = 0. -/
def quiet (tms : Bool) : Sample := sample tms false false

/-- The shifting samples of a scan: bit `k` of `I` and `O` on the `(k+1)`-th, tms = 1 on the last. -/
def shifts (n : Nat) (I O : BitVec n) : List Sample :=
  (List.range n).map fun k => sample (k + 1 == n) (I.getLsbD k) (O.getLsbD k)

/-- `TLR`: five samples with tms = 1. -/
def tlr : List Sample := List.replicate 5 (quiet true)

/-- `RTI`: one sample with tms = 0. -/
def rti : List Sample := [quiet false]

/-- `IRSCAN v`: ten samples. -/
def irscan (v : Nibble) : List Sample :=
  [quiet true, quiet true, quiet false, quiet false] ++ shifts 4 v 0 ++ [quiet true, quiet false]

/-- `DRSCAN n, I, O`: `n + 5` samples. -/
def drscan (n : Nat) (I O : BitVec n) : List Sample :=
  [quiet true, quiet false, quiet false] ++ shifts n I O ++ [quiet true, quiet false]

/-- `PDIFRAME w, r`: a ten-bit scan whose last bit is 0 and is discarded. -/
def pdiframe (w r : Frame) : List Sample := drscan 10 (BitVec.cons false w) (BitVec.cons false r)

/-- `PDIW b`. -/
def pdiw (b : Byte) : List Sample := pdiframe (evenFrame b) 0

/-- `PDIR b`. -/
def pdir (b : Byte) : List Sample := pdiframe 0 (evenFrame b)

end Sys2Proof.Machine.Macros
end

