-- ==== Sys2Proof/Safety.lean ====
section
/-!
DEFINITION. The terms claims are stated in: the invariants the spec gives the machine, what a run commits, accepts
and leaves pending, and the premises SYNC and BUS_SLOW (20_memory.md R69, 70_reset_and_hazards.md R245).
-/

namespace Sys2Proof.Safety

open Sys2Proof.Machine

/-- A run says something about the hardware only while nothing was refused (R45, R223). -/
abbrev Safe (s : State) : Prop := s.refused = false

/-- The opcodes of an open transaction (R152 b). -/
abbrev ActiveOpcode (op : Nibble) : Prop := op.toNat < 8

/-- The invariant of R152 between steps, with R34's bound on `cs`. -/
structure Dissector (s : State) : Prop where
  fsIdle : s.fs = .idle
  updClear : s.upd = false
  closedOrOpen : (s.opcode = opIdle ∧ s.wcnt = 0 ∧ s.rcnt = 0) ∨ (ActiveOpcode s.opcode ∧ 1 ≤ s.wcnt + s.rcnt)
  captureIff : s.cs = .captureRepeat ↔ s.opcode = opRepeat
  captureCounts : s.opcode = opRepeat → 1 ≤ s.wcnt ∧ s.rcnt = 0
  csRest : s.cs = .idle ∨ s.cs = .captureRepeat

/-- R152 holds while nothing was refused. -/
abbrev DissectorWhileSafe (s : State) : Prop := Safe s → Dissector s

/-- The counters stay within the largest value any rule writes (R38, R184). -/
abbrev CountsBounded (s : State) : Prop := s.wcnt ≤ 2 ^ 34 ∧ s.rcnt ≤ 2 ^ 34

/-- Whether a byte sequence is a sequence of whole frames with tags 0x10 and 0x11 (R206), after `owed` payload
bytes of a frame already begun. -/
def framesFrom : Nat → List Byte → Bool
  | 0, [] => true
  | _ + 1, [] => false
  | 0, t :: rest => if t = tagIdcode then framesFrom 4 rest else if t = tagPdi then framesFrom 1 rest else false
  | owed + 1, _ :: rest => framesFrom owed rest

/-- `out` is a sequence of whole frames (R206). -/
abbrev OutFramed (s : State) : Prop := framesFrom 0 s.out = true

/-- What the literal SELECT-IR successor makes unreachable (R104): the instruction register path is not entered, `ir`
keeps IDCODE, and no PDI frame was ever committed. -/
structure LiteralSelectIr (s : State) : Prop where
  tapOffIr : s.tap ≠ .captureIr ∧ s.tap ≠ .shiftIr ∧ s.tap ≠ .exit1Ir ∧ s.tap ≠ .pauseIr ∧ s.tap ≠ .exit2Ir ∧
    s.tap ≠ .updateIr
  irIdcode : s.ir = s.cfg.irIdcode
  noFrame : s.pdiTgl = false ∧ s.pdiSeen = false ∧ s.pdiW = 0 ∧ s.pdiR = 0

/-- Everything the PDI dissector holds (10_state.md section 4), as one value. -/
def dissectorPart (s : State) :=
  (s.opcode, s.fs, s.cs, s.arg, s.data, s.upd, s.wcnt, s.rcnt, s.rep, s.acc)

/-- Everything the bus agent writes (R22 to R29, R231), as one value. -/
def busPart (s : State) :=
  (s.tap, s.ir, s.irs, s.dri, s.dro, s.idcode, s.idTgl, s.pdiW, s.pdiR, s.pdiTgl)

/-- Everything the processing agent writes (R30 to R45, R231), as one value. -/
def processingPart (s : State) :=
  (s.idSeen, s.pdiSeen, dissectorPart s, s.out, s.errCount, s.refused)

/-- The state after one step; a step that answers no state would leave it where it was. -/
def stepped (s : State) : State :=
  match step s with
  | .next t => t
  | .fault _ => s
  | .refused _ => s

/-- The state after `k` steps. -/
def steppedTimes : Nat → State → State
  | 0, s => s
  | k + 1, s => steppedTimes k (stepped s)

/-- `s` with the samples `xs` as its only turns. -/
def onBus (xs : List Sample) (s : State) : State := s.setSchedule (xs.map Turn.bus)

/-- `s` after the bus steps of the samples `xs` (R100). -/
def afterBus (xs : List Sample) (s : State) : State := steppedTimes xs.length (onBus xs s)

/-- The premise SYNC as a property of a trace (R245): five samples in a row have tms = 1. -/
def Sync (xs : List Sample) : Prop :=
  ∃ before five after, xs = before ++ five ++ after ∧ five.length = 5 ∧ ∀ x ∈ five, x.tms = true

/-- The PDI frame pair that the next step commits, if it commits one (R65, R123). -/
def committedPdi (s : State) : List (Frame × Frame) :=
  if (stepped s).pdiTgl = s.pdiTgl then [] else [((stepped s).pdiW, (stepped s).pdiR)]

/-- The IDCODE that the next step commits, if it commits one (R65, R122). -/
def committedId (s : State) : List Word :=
  if (stepped s).idTgl = s.idTgl then [] else [(stepped s).idcode]

/-- The PDI frame pair that the next step accepts, if it accepts one (R66, R149). -/
def acceptedPdi (s : State) : List (Frame × Frame) :=
  match s.schedule with
  | .acceptPdi :: _ => if s.pdiPending ∧ s.fs = .idle then [(s.pdiW, s.pdiR)] else []
  | _ => []

/-- The IDCODE that the next step accepts, if it accepts one (R66). -/
def acceptedId (s : State) : List Word :=
  match s.schedule with
  | .acceptId :: _ => if s.idPending then [s.idcode] else []
  | _ => []

/-- The value waiting in the PDI mailbox. -/
def waitingPdi (s : State) : List (Frame × Frame) := if s.pdiPending then [(s.pdiW, s.pdiR)] else []

/-- The value waiting in the IDCODE mailbox. -/
def waitingId (s : State) : List Word := if s.idPending then [s.idcode] else []

/-- What each of the next `k` steps yields, in step order. -/
def along {α : Type} (what : State → List α) : Nat → State → List α
  | 0, _ => []
  | k + 1, s => what s ++ along what k (stepped s)

/-- One step within the premise BUS_SLOW (R69): no enabled miss, and a commit only to a mailbox already consumed. -/
def BusSlowStep (s : State) : Prop :=
  (s.schedule.head? = some .missId → s.idPending = false) ∧
  (s.schedule.head? = some .missPdi → s.pdiPending = false) ∧
  (committedId s ≠ [] → s.idPending = false) ∧
  (committedPdi s ≠ [] → s.pdiPending = false)

/-- The premise BUS_SLOW over the next `k` steps (R69, R245). -/
def BusSlow : Nat → State → Prop
  | 0, _ => True
  | k + 1, s => BusSlowStep s ∧ BusSlow k (stepped s)

/-- One accept step on the frame pair `p`: the mailbox is filled and the accept turn taken (R66). -/
def deliver (s : State) (p : Frame × Frame) : State :=
  stepped { s with pdiW := p.1, pdiR := p.2, pdiTgl := !s.pdiSeen, schedule := [.acceptPdi] }

/-- Accept steps on the frame pairs `ps`, in order. -/
def deliverAll (ps : List (Frame × Frame)) (s : State) : State := ps.foldl deliver s

/-- The frame of the direction that is active after `k` bytes of a transaction of `w` write bytes (R91, R141). -/
def transactionFrame (w k : Nat) (p : Frame × Frame) : Frame := if k < w then p.1 else p.2

/-- The number of ones among a frame's nine bits (R142). -/
def onesIn (f : Frame) : Nat := (List.range 9).countP fun k => f.getLsbD k

/-- What every command byte leaves, whatever its counts (R143, R147, R170): the byte and its fields latched, the
update-counts flag set and cleared again, both machines back in IDLE. -/
def commandLatched (nibble : Nibble) (aa bb : SizeField) (s : State) : State :=
  { s with
    data := nibble ++ aa ++ bb, opcode := nibble, arg := aa ++ bb, upd := false, fs := .idle, cs := .idle }

/-- A byte list as one big-endian number (R63, R181). -/
def bigEndian (bytes : List Byte) : Nat := bytes.foldl (fun v b => v * 256 + b.toNat) 0

end Sys2Proof.Safety
end

