-- ==== Sys2Proof/WellFormed.lean ====
section
/-!
DEFINITION. Which instructions exist under given parameters. The operand types already bound every field; what is
left is the decode of the JTAG instruction register (30_encoding.md R82).
-/

namespace Sys2Proof

/-- `IR.OTHER` is any value but the two codes, and `IR.PDICOM` exists only where its code is its own (R10, R82). -/
def Instr.wellFormed (c : Config) : Instr → Bool
  | .irPdicom => c.irPdicom != c.irIdcode
  | .irOther v => v != c.irIdcode && v != c.irPdicom
  | .tapReset .. | .tapIdle .. | .tapSelectDr .. | .tapCaptureDr .. | .tapShiftDr .. | .tapExit1Dr ..
  | .tapPauseDr .. | .tapExit2Dr .. | .tapUpdateDr .. | .tapSelectIr .. | .tapCaptureIr .. | .tapShiftIr ..
  | .tapExit1Ir .. | .tapPauseIr .. | .tapExit2Ir .. | .tapUpdateIr ..
  | .irIdcode | .pdiFrame ..
  | .pdiLds .. | .pdiLd .. | .pdiSts .. | .pdiSt .. | .pdiLdcs .. | .pdiRepeat .. | .pdiStcs .. | .pdiKey ..
  | .pdiIdle ..
  | .pdiReserved8 .. | .pdiReserved9 .. | .pdiReservedA .. | .pdiReservedB .. | .pdiReservedC ..
  | .pdiReservedD .. | .pdiReservedE ..
  | .outIdcode _ | .outPdi _ | .outErrorReserved => true

end Sys2Proof
end

