-- ==== Sys2Proof/Certificates/Slice0/Obligations.lean ====
section
/-!
DEFINITION. The statements for the provers. Each docstring names the rules of spec/ it formalises.
-/

open Sys2Proof Sys2Proof.Machine Sys2Proof.Safety

/-- R46: the power-on value of every element of the spec's table, whatever the parameters, and State.reset is such a
state. The zeros are the spec's decision D15 (log entry 8); `cfg` and `schedule` are the model's own fields (log entries
2 and 3). -/
def Obligations.PowerOnHoldsTheTableOfR46 : Prop :=
  (∃ c, State.reset = State.powerOn c) ∧
  ∀ c, let s := State.powerOn c
    s.tap = .reset ∧ s.ir = c.irIdcode ∧ s.irs = 0 ∧ s.dri = 0 ∧ s.dro = 0 ∧ s.idcode = 0 ∧ s.idTgl = false ∧
    s.pdiW = 0 ∧ s.pdiR = 0 ∧ s.pdiTgl = false ∧ s.idSeen = false ∧ s.pdiSeen = false ∧ s.opcode = 0xF ∧
    s.fs = .idle ∧ s.cs = .idle ∧ s.arg = 0 ∧ s.data = 0 ∧ s.upd = false ∧ s.wcnt = 0 ∧ s.rcnt = 0 ∧ s.rep = 0 ∧
    s.acc = 0 ∧ s.out = [] ∧ s.errCount = 0 ∧ s.refused = false

/-- R10: whatever the unknown parameters are, the two instruction codes differ and MIN_GAP is positive. That one
legal choice stands behind reset is the model's (log entry 2). -/
def Obligations.UnknownParametersAreLegal : Prop :=
  State.reset.cfg.irPdicom ≠ State.reset.cfg.irIdcode ∧ 0 < State.reset.cfg.minGap

/-- R101: the successor of every TAP state, as the table gives it, for every sample and every state; the SELECT-IR entry
under tms = 0 is the parameter P_SELIR0. -/
def Obligations.BusStepFollowsTheTapTable : Prop :=
  (∀ row ∈ ([(.reset, .idle, .reset), (.idle, .idle, .selectDr), (.selectDr, .captureDr, .selectIr),
      (.captureDr, .shiftDr, .exit1Dr), (.shiftDr, .shiftDr, .exit1Dr), (.exit1Dr, .pauseDr, .updateDr),
      (.pauseDr, .pauseDr, .exit2Dr), (.exit2Dr, .shiftDr, .updateDr), (.updateDr, .idle, .selectDr),
      (.captureIr, .shiftIr, .exit1Ir), (.shiftIr, .shiftIr, .exit1Ir), (.exit1Ir, .pauseIr, .updateIr),
      (.pauseIr, .pauseIr, .exit2Ir), (.exit2Ir, .shiftIr, .updateIr), (.updateIr, .idle, .selectDr)] :
      List (TapState × TapState × TapState)),
    ∀ x s, ∃ t, exec (decodeTap row.1 x) s = .next t ∧ t.tap = if x.tms then row.2.2 else row.2.1) ∧
  (∀ x s, x.tms = true → ∃ t, exec (decodeTap .selectIr x) s = .next t ∧ t.tap = .reset) ∧
  (∀ x s, x.tms = false → s.cfg.selIr0 = .captureIr →
    ∃ t, exec (decodeTap .selectIr x) s = .next t ∧ t.tap = .captureIr) ∧
  (∀ x s, x.tms = false → s.cfg.selIr0 = .captureDr →
    ∃ t, exec (decodeTap .selectIr x) s = .next t ∧ t.tap = .captureDr)

/-- R106, R107, R108, R110, R111, R112, R114, R115, R117, R118, R119: in these eleven states only the TAP state
changes; every register, flag and output byte is left. The spec derives these rules from R100, its decision D4 (log
entry 9). -/
def Obligations.HoldingTapStatesOnlyAdvance : Prop :=
  ∀ (s : State) (tms tdi tdo : Bool),
    exec (.tapIdle tms tdi tdo) s = .next { s with tap := if tms then .selectDr else .idle } ∧
    exec (.tapSelectDr tms tdi tdo) s = .next { s with tap := if tms then .selectIr else .captureDr } ∧
    exec (.tapCaptureDr tms tdi tdo) s = .next { s with tap := if tms then .exit1Dr else .shiftDr } ∧
    exec (.tapExit1Dr tms tdi tdo) s = .next { s with tap := if tms then .updateDr else .pauseDr } ∧
    exec (.tapPauseDr tms tdi tdo) s = .next { s with tap := if tms then .exit2Dr else .pauseDr } ∧
    exec (.tapExit2Dr tms tdi tdo) s = .next { s with tap := if tms then .updateDr else .shiftDr } ∧
    exec (.tapSelectIr tms tdi tdo) s = .next { s with
      tap := if tms then .reset else if s.cfg.selIr0 = .captureIr then .captureIr else .captureDr } ∧
    exec (.tapCaptureIr tms tdi tdo) s = .next { s with tap := if tms then .exit1Ir else .shiftIr } ∧
    exec (.tapExit1Ir tms tdi tdo) s = .next { s with tap := if tms then .updateIr else .pauseIr } ∧
    exec (.tapPauseIr tms tdi tdo) s = .next { s with tap := if tms then .exit2Ir else .pauseIr } ∧
    exec (.tapExit2Ir tms tdi tdo) s = .next { s with tap := if tms then .updateIr else .shiftIr }

/-- R105, R243: the TAP's RESET state writes `ir` and nothing else, on every edge taken in it (decision D4, log
entry 9). -/
def Obligations.TapResetPreloadsOnlyIr : Prop :=
  ∀ (s : State) (tms tdi tdo : Bool),
    exec (.tapReset tms tdi tdo) s =
      .next { s with ir := s.cfg.irIdcode, tap := if tms then .reset else .idle }

/-- R109: bit 31 takes the sampled bit and every other bit its left neighbour, in both registers, on the exit edge
too; nothing else but the TAP state changes. The edge is decision D4 (log entry 9). -/
def Obligations.ShiftDrShiftsBothRegisters : Prop :=
  ∀ (s : State) (tms tdi tdo : Bool), ∃ t, exec (.tapShiftDr tms tdi tdo) s = .next t ∧
    t = { s with dri := t.dri, dro := t.dro, tap := if tms then .exit1Dr else .shiftDr } ∧
    t.dri.getLsbD 31 = tdi ∧ t.dro.getLsbD 31 = tdo ∧
    ∀ k < 31, t.dri.getLsbD k = s.dri.getLsbD (k + 1) ∧ t.dro.getLsbD k = s.dro.getLsbD (k + 1)

/-- R116: bit 3 takes the sampled tdi and every other bit its left neighbour; nothing else but the TAP state
changes. The direction is decision D5, the edge D4 (log entry 9). -/
def Obligations.ShiftIrShiftsTheShadow : Prop :=
  ∀ (s : State) (tms tdi tdo : Bool), ∃ t, exec (.tapShiftIr tms tdi tdo) s = .next t ∧
    t = { s with irs := t.irs, tap := if tms then .exit1Ir else .shiftIr } ∧
    t.irs.getLsbD 3 = tdi ∧ ∀ k < 3, t.irs.getLsbD k = s.irs.getLsbD (k + 1)

/-- R120: UPDATE-IR commits every 4-bit value, on the edge that leaves it (decision D4, log entry 9). -/
def Obligations.UpdateIrCommitsTheShadow : Prop :=
  ∀ (s : State) (tms tdi tdo : Bool),
    exec (.tapUpdateIr tms tdi tdo) s = .next { s with ir := s.irs, tap := if tms then .selectDr else .idle }

/-- R122, R123, R124: the three branches of UPDATE-DR, each with its frame, on the edge that leaves it
(decision D4, log entry 9); IDCODE_SRC is a parameter. -/
def Obligations.UpdateDrCommitsByInstruction : Prop :=
  ∀ (s : State) (tms tdi tdo : Bool), let after : TapState := if tms then .selectDr else .idle
    (s.ir = s.cfg.irIdcode → exec (.tapUpdateDr tms tdi tdo) s = .next { s with
      tap := after, idTgl := !s.idTgl, idcode := if s.cfg.idcodeSrc = .tdi then s.dri else s.dro }) ∧
    (s.ir ≠ s.cfg.irIdcode → s.ir = s.cfg.irPdicom → exec (.tapUpdateDr tms tdi tdo) s = .next { s with
      tap := after, pdiTgl := !s.pdiTgl, pdiW := BitVec.ofNat 9 (s.dri.toNat / 2 ^ 22),
      pdiR := BitVec.ofNat 9 (s.dro.toNat / 2 ^ 22) }) ∧
    (s.ir ≠ s.cfg.irIdcode → s.ir ≠ s.cfg.irPdicom →
      exec (.tapUpdateDr tms tdi tdo) s = .next { s with tap := after })

/-- R122, R123, R124 as the table's rows of their own: each answers a next state with its branch's effect. That
the rows run on their own is the model's choice (log entry 4). -/
def Obligations.IrInstructionsComplete : Prop :=
  ∀ s : State,
    exec .irIdcode s = .next { s with
      idTgl := !s.idTgl, idcode := if s.cfg.idcodeSrc = .tdi then s.dri else s.dro } ∧
    exec .irPdicom s = .next { s with
      pdiTgl := !s.pdiTgl, pdiW := BitVec.ofNat 9 (s.dri.toNat / 2 ^ 22),
      pdiR := BitVec.ofNat 9 (s.dro.toNat / 2 ^ 22) } ∧
    ∀ ir, exec (.irOther ir) s = .next s

/-- R121: UPDATE-DR does what the instruction decoded from `ir` does, and then the TAP advances. -/
def Obligations.UpdateDrRunsTheDecodedInstruction : Prop :=
  ∀ (s : State) (tms tdi tdo : Bool), ∃ u, exec (decodeIr s.cfg s.ir) s = .next u ∧
    exec (.tapUpdateDr tms tdi tdo) s = .next { u with tap := if tms then .selectDr else .idle }

/-- R65, R113: a step that changes a mailbox is a bus step taken in UPDATE-DR, and it changes one mailbox only. -/
def Obligations.OnlyUpdateDrWritesMailboxes : Prop :=
  ∀ s t : State, step s = .next t →
    ((t.idcode, t.idTgl) = (s.idcode, s.idTgl) ∧ (t.pdiW, t.pdiR, t.pdiTgl) = (s.pdiW, s.pdiR, s.pdiTgl)) ∨
    ∃ x rest, s.schedule = .bus x :: rest ∧ s.tap = .updateDr ∧
      ((t.idTgl = !s.idTgl) ∧ (t.pdiW, t.pdiR, t.pdiTgl) = (s.pdiW, s.pdiR, s.pdiTgl) ∨
       (t.pdiTgl = !s.pdiTgl) ∧ (t.idcode, t.idTgl) = (s.idcode, s.idTgl))

/-- R127: from every state, five samples with tms = 1 leave RESET, and the next sample with tms = 0 leaves IDLE with
the instruction register holding IDCODE. -/
def Obligations.FiveOnesThenZeroSelectIdcode : Prop :=
  ∀ (s : State) (xs : List Sample), xs.length = 5 → (∀ x ∈ xs, x.tms = true) →
    (afterBus xs s).tap = .reset ∧
    ∀ x : Sample, x.tms = false →
      (afterBus (xs ++ [x]) s).tap = .idle ∧ (afterBus (xs ++ [x]) s).ir = s.cfg.irIdcode

/-- R104: with the literal SELECT-IR successor every step keeps the instruction register path unentered, `ir` at
IDCODE and the PDI mailbox unwritten, and the dissector receives nothing. -/
def Obligations.LiteralSelectIrIsKept : Prop :=
  ∀ s t : State, s.cfg.selIr0 = .captureDr → LiteralSelectIr s → step s = .next t →
    t.cfg = s.cfg ∧ LiteralSelectIr t ∧ dissectorPart t = dissectorPart s

/-- R152, R206, R184, R104 at the state after reset. -/
def Obligations.ResetMeetsTheInvariants : Prop :=
  DissectorWhileSafe State.reset ∧ OutFramed State.reset ∧ CountsBounded State.reset ∧
  LiteralSelectIr State.reset

/-- R126: the TAP state after a trace depends on the first TAP state, P_SELIR0 and the tms bits only. -/
def Obligations.TapPathDependsOnTmsOnly : Prop :=
  ∀ (s u : State) (xs ys : List Sample), s.tap = u.tap → s.cfg.selIr0 = u.cfg.selIr0 →
    xs.map Sample.tms = ys.map Sample.tms → (afterBus xs s).tap = (afterBus ys u).tap

/-- R103, R245 (premise SYNC): after a trace with five tms = 1 samples in a row the TAP state no longer depends on
where tracing began. -/
def Obligations.SyncForgetsTheFirstTapState : Prop :=
  ∀ (s u : State) (xs : List Sample), Sync xs → s.cfg.selIr0 = u.cfg.selIr0 →
    (afterBus xs s).tap = (afterBus xs u).tap

/-- R61: after `n` edges taken in SHIFT-DR, n ≤ 32, the bit sampled on the (k+1)-th stands at bit 32 - n + k, and the
lower bits are the old register moved down; in both data registers. -/
def Obligations.ShiftedBitsStandInOrder : Prop :=
  ∀ (s : State) (xs : List Sample), s.tap = .shiftDr → (∀ x ∈ xs.dropLast, x.tms = false) → xs.length ≤ 32 →
    (∀ (k : Nat) (x : Sample), xs[k]? = some x →
      (afterBus xs s).dri.getLsbD (32 - xs.length + k) = x.tdi ∧
      (afterBus xs s).dro.getLsbD (32 - xs.length + k) = x.tdo) ∧
    (∀ j < 32 - xs.length,
      (afterBus xs s).dri.getLsbD j = s.dri.getLsbD (j + xs.length) ∧
      (afterBus xs s).dro.getLsbD j = s.dro.getLsbD (j + xs.length))

/-- R83, R96: IRSCAN v, from IDLE with the table's SELECT-IR successor, loads `v` and changes nothing else (notation D17,
direction D5: log entry 9). -/
def Obligations.IrScanLoadsTheInstruction : Prop :=
  ∀ (s : State) (v : Nibble), s.tap = .idle → s.cfg.selIr0 = .captureIr →
    afterBus (Macros.irscan v) s = { s with ir := v, irs := v, schedule := [] }

/-- R84: a 32-bit scan under IDCODE, least significant bit first, commits the pattern of the selected line unchanged,
with one toggle, and changes nothing else. -/
def Obligations.IdcodeScanRoundTrip : Prop :=
  ∀ (s : State) (I O : Word), s.tap = .idle → s.ir = s.cfg.irIdcode →
    afterBus (Macros.drscan 32 I O) s = { s with
      dri := I, dro := O, idcode := if s.cfg.idcodeSrc = .tdi then I else O, idTgl := !s.idTgl, schedule := [] }

/-- R85, R96: PDIFRAME w, r under PDICOM commits the frame pair (w, r) with one toggle, and changes nothing else but
the data shift registers. -/
def Obligations.PdiFrameScanCommitsThePair : Prop :=
  ∀ (s : State) (w r : Frame), s.tap = .idle → s.ir = s.cfg.irPdicom → s.cfg.irPdicom ≠ s.cfg.irIdcode →
    ∃ i o, afterBus (Macros.pdiframe w r) s = { s with
      dri := i, dro := o, pdiW := w, pdiR := r, pdiTgl := !s.pdiTgl, schedule := [] }

/-- R85, R249: a scan of any length `n ≥ 1` under PDICOM is taken from the same positions: frame bit `k` is the bit
sampled on edge k + n - 9, or an older bit of the register where that is not positive. -/
def Obligations.PdiScanOfAnyLengthUsesBits30To22 : Prop :=
  ∀ (s : State) (n : Nat) (I O : BitVec n), 1 ≤ n → s.tap = .idle → s.ir = s.cfg.irPdicom →
    s.cfg.irPdicom ≠ s.cfg.irIdcode → ∀ k < 9,
      (afterBus (Macros.drscan n I O) s).pdiW.getLsbD k =
        (if 10 ≤ k + n then I.getLsbD (k + n - 10) else s.dri.getLsbD (22 + k + n)) ∧
      (afterBus (Macros.drscan n I O) s).pdiR.getLsbD k =
        (if 10 ≤ k + n then O.getLsbD (k + n - 10) else s.dro.getLsbD (22 + k + n))

/-- R142, R150: a frame with an odd number of ones raises one parity_err pulse, abandons the transaction and a REPEAT
capture, and leaves `data`, `upd`, `rep`, `acc`, `arg` and the output as they were. Clearing the counts and `cs` is the
spec's decision D9 (log entry 12). -/
def Obligations.OddFrameTakesParityError : Prop :=
  ∀ (s : State) (p : Bool) (d : Byte), onesIn (frameOf p d) % 2 = 1 →
    exec (.pdiFrame p d) s = .next { s with
      fs := .idle, errCount := s.errCount + 1, opcode := 0xF, wcnt := 0, rcnt := 0, cs := .idle }

/-- R142: an even frame of the active direction is accepted, without an error pulse, and its byte is latched; an odd one
raises the pulse, forces the opcode to IDLE, and is not latched. The latching is R143, R144, R146 (bit positions D6, log
entry 9) and R150, R220; the pulse is counted by R44 (decision D11, log entry 10). -/
def Obligations.ParityDecidesEveryFrame : Prop :=
  ∀ (s : State) (p : Bool) (d : Byte), ∃ t, exec (.pdiFrame p d) s = .next t ∧
    (onesIn (frameOf p d) % 2 = 0 → t.errCount = s.errCount ∧ t.data = d) ∧
    (onesIn (frameOf p d) % 2 = 1 → t.errCount = s.errCount + 1 ∧ t.opcode = 0xF ∧ t.data = s.data)

/-- R144, R147, R202: a good frame while write bytes are due is one write byte: latched, counted, emitted, and the
last one closes the transaction. Framing variant: decision D7 (log entry 10); bit positions: D6 (log entry 9). -/
def Obligations.WriteByteIsCountedAndEmitted : Prop :=
  ∀ (s : State) (p : Bool) (d : Byte), onesIn (frameOf p d) % 2 = 0 → s.opcode ≠ 0xF → 0 < s.wcnt →
    s.upd = false → s.cs ≠ .captureRepeat →
    exec (.pdiFrame p d) s = .next { s with
      fs := .idle, data := d, wcnt := s.wcnt - 1, out := s.out ++ [0x11, d],
      opcode := if s.wcnt = 1 ∧ s.rcnt = 0 then 0xF else s.opcode }

/-- R145, R180, R181: in CAPTURE-REPEAT a write byte also enters `acc` from below, and the last one sets `rep` to the
low `arg[1:0] + 1` bytes of `acc` and ends the capture. -/
def Obligations.RepeatPayloadByteIsCaptured : Prop :=
  ∀ (s : State) (p : Bool) (d : Byte), onesIn (frameOf p d) % 2 = 0 → s.opcode ≠ 0xF → 0 < s.wcnt →
    s.upd = false → s.cs = .captureRepeat →
    exec (.pdiFrame p d) s = .next { s with
      fs := .idle, data := d, wcnt := s.wcnt - 1, out := s.out ++ [0x11, d],
      opcode := if s.wcnt = 1 ∧ s.rcnt = 0 then 0xF else s.opcode,
      acc := BitVec.ofNat 32 (s.acc.toNat * 256 + d.toNat),
      rep := if s.wcnt = 1 then
          BitVec.ofNat 32 ((s.acc.toNat * 256 + d.toNat) % 2 ^ (8 * (s.arg.toNat % 4 + 1)))
        else s.rep,
      cs := if s.wcnt = 1 then .idle else .captureRepeat }

/-- R146, R147, R202: a good frame with no write byte due is one read byte (framing variant D7, log entry 10). -/
def Obligations.ReadByteIsCountedAndEmitted : Prop :=
  ∀ (s : State) (p : Bool) (d : Byte), onesIn (frameOf p d) % 2 = 0 → s.opcode ≠ 0xF → s.wcnt = 0 →
    0 < s.rcnt → s.upd = false →
    exec (.pdiFrame p d) s = .next { s with
      fs := .idle, data := d, rcnt := s.rcnt - 1, out := s.out ++ [0x11, d],
      opcode := if s.rcnt = 1 then 0xF else s.opcode }

/-- R148: a read with no byte due sets `refused` and continues with `rcnt` at 0, so that the step stays total; no
claim about the hardware (log entry 7). -/
def Obligations.ReadUnderflowIsRefusedAndContinues : Prop :=
  ∀ (s : State) (p : Bool) (d : Byte), onesIn (frameOf p d) % 2 = 0 → s.opcode ≠ 0xF → s.wcnt = 0 →
    s.rcnt = 0 → s.upd = false →
    exec (.pdiFrame p d) s = .next { s with
      fs := .idle, data := d, out := s.out ++ [0x11, d], opcode := 0xF, refused := true }

/-- R143, R170: with no transaction open a good frame does what the instruction of its command byte does, all
in one step (decision D12, log entry 11). -/
def Obligations.FrameWithoutTransactionRunsItsCommand : Prop :=
  ∀ (s : State) (p : Bool) (d : Byte), onesIn (frameOf p d) % 2 = 0 → s.opcode = 0xF →
    exec (.pdiFrame p d) s = exec (decodeCommand d) s

/-- R171, R173: LDS and STS, exact counts, `rep` and every other element left. The latching, no output and both machines
back in IDLE are R143, R147, R170 (decisions D7, D12: log entries 10, 11; `cs`: log entry 15). -/
def Obligations.DirectCommandsSetTheirCounts : Prop :=
  ∀ (s : State) (aa bb : SizeField),
    exec (.pdiLds aa bb) s =
      .next { commandLatched 0x0 aa bb s with wcnt := aa.toNat + 1, rcnt := bb.toNat + 1 } ∧
    exec (.pdiSts aa bb) s =
      .next { commandLatched 0x2 aa bb s with wcnt := (aa.toNat + 1) + (bb.toNat + 1), rcnt := 0 }

/-- R172, R174: LD and ST multiply their size by `rep + 1`, exactly (decision D8, log entry 12), and zero `rep`. -/
def Obligations.IndirectCommandsUseTheRepeatCount : Prop :=
  ∀ (s : State) (aa bb : SizeField),
    exec (.pdiLd aa bb) s = .next { commandLatched 0x1 aa bb s with
      wcnt := 0, rcnt := (s.rep.toNat + 1) * (bb.toNat + 1), rep := 0 } ∧
    exec (.pdiSt aa bb) s = .next { commandLatched 0x3 aa bb s with
      wcnt := (s.rep.toNat + 1) * (bb.toNat + 1), rcnt := 0, rep := 0 }

/-- R175, R177, R178: LDCS, STCS and KEY have fixed counts whatever their argument nibble. The latching, no output
and both machines back in IDLE are R143, R147, R170 (decisions D7, D12: log entries 10, 11; `cs`: log entry 15). -/
def Obligations.FixedCommandsSetTheirCounts : Prop :=
  ∀ (s : State) (aa bb : SizeField),
    exec (.pdiLdcs aa bb) s = .next { commandLatched 0x4 aa bb s with wcnt := 0, rcnt := 1 } ∧
    exec (.pdiStcs aa bb) s = .next { commandLatched 0x6 aa bb s with wcnt := 1, rcnt := 0 } ∧
    exec (.pdiKey aa bb) s = .next { commandLatched 0x7 aa bb s with wcnt := 8, rcnt := 0 }

/-- R176: REPEAT expects `sizeB` payload bytes and waits in CAPTURE-REPEAT; `rep` and `acc` are left. The latching,
`upd` and `fs` at rest and no output are R143, R147, R170 (decisions D7, D12: log entries 10, 11). -/
def Obligations.RepeatCommandWaitsForItsPayload : Prop :=
  ∀ (s : State) (aa bb : SizeField),
    exec (.pdiRepeat aa bb) s = .next { commandLatched 0x5 aa bb s with
      wcnt := bb.toNat + 1, rcnt := 0, cs := .captureRepeat }

/-- R179: the IDLE nibble is consumed; only `data` and `arg` remember it, and nothing is emitted. -/
def Obligations.IdleNibbleIsConsumed : Prop :=
  ∀ (s : State) (aa bb : SizeField), exec (.pdiIdle aa bb) s = .next (commandLatched 0xF aa bb s)

/-- R183: each reserved nibble sets `refused`, writes no count, returns the count machine to IDLE and stays in
`opcode`; the continuation is no claim about the hardware (log entry 6). -/
def Obligations.ReservedNibblesAreRefusedAndContinue : Prop :=
  ∀ (s : State) (aa bb : SizeField),
    exec (.pdiReserved8 aa bb) s = .next { commandLatched 0x8 aa bb s with refused := true } ∧
    exec (.pdiReserved9 aa bb) s = .next { commandLatched 0x9 aa bb s with refused := true } ∧
    exec (.pdiReservedA aa bb) s = .next { commandLatched 0xA aa bb s with refused := true } ∧
    exec (.pdiReservedB aa bb) s = .next { commandLatched 0xB aa bb s with refused := true } ∧
    exec (.pdiReservedC aa bb) s = .next { commandLatched 0xC aa bb s with refused := true } ∧
    exec (.pdiReservedD aa bb) s = .next { commandLatched 0xD aa bb s with refused := true } ∧
    exec (.pdiReservedE aa bb) s = .next { commandLatched 0xE aa bb s with refused := true }

/-- R152: every step keeps the dissector's invariant while nothing was refused, and under it no counter is asked for
a byte it does not owe. -/
def Obligations.DissectorInvariantIsKept : Prop :=
  (∀ s t : State, DissectorWhileSafe s → step s = .next t → DissectorWhileSafe t) ∧
  (∀ s : State, Dissector s → s.opcode ≠ 0xF →
    (hostToTarget s = true → 1 ≤ s.wcnt) ∧ (hostToTarget s = false → 1 ≤ s.rcnt))

/-- R45, R223: `refused` is never cleared, and from a state that meets R152 only a good command frame with a reserved
nibble sets it. -/
def Obligations.OnlyReservedCommandsAreRefused : Prop :=
  ∀ s t : State, step s = .next t →
    (s.refused = true → t.refused = true) ∧
    (s.refused = false → Dissector s → (t.refused = true ↔
      (∃ rest, s.schedule = .acceptPdi :: rest) ∧ s.pdiPending = true ∧ s.opcode = 0xF ∧
      onesIn s.pdiW % 2 = 0 ∧ 0x8 ≤ (opcodeField (frameByte s.pdiW)).toNat ∧
      (opcodeField (frameByte s.pdiW)).toNat ≤ 0xE))

/-- R180, R181, R182, R172: a REPEAT and its payload leave in `rep` the payload as a big-endian number, whatever `acc`
held; the payload is emitted; and the next LD multiplies its size by it and zeroes it (one step a frame: decision D12,
log entry 11). -/
def Obligations.RepeatThenLoadCountsThePayload : Prop :=
  ∀ (s : State) (aa bb aa' bb' : SizeField) (payload : List Byte) (pairs : List (Frame × Frame)) (q : Frame),
    Dissector s → s.opcode = 0xF → payload.length = bb.toNat + 1 →
    pairs.map Prod.fst = (commandByte 0x5 aa bb :: payload).map evenFrame →
    let t := deliverAll pairs s
    let u := deliver t (evenFrame (commandByte 0x1 aa' bb'), q)
    t.rep.toNat = bigEndian payload ∧ t.opcode = 0xF ∧ t.cs = .idle ∧
    t.out = s.out ++ payload.flatMap (fun b => [0x11, b]) ∧
    u.opcode = 0x1 ∧ u.wcnt = 0 ∧ u.rcnt = (bigEndian payload + 1) * (bb'.toNat + 1) ∧ u.rep = 0

/-- R153, R91: a command of a defined opcode emits nothing, and its transaction, run to completion with good frames,
emits exactly its write bytes and then its read bytes, one PDI event each (variant D7, log entry 10), and closes. -/
def Obligations.TransactionEmitsExactlyItsBytes : Prop :=
  ∀ (s : State) (c : Byte) (q : Frame) (pairs : List (Frame × Frame)),
    Dissector s → s.opcode = 0xF → (opcodeField c).toNat < 8 →
    let u := deliver s (evenFrame c, q)
    let frames := pairs.mapIdx fun k p => transactionFrame u.wcnt k p
    pairs.length = u.wcnt + u.rcnt → (∀ f ∈ frames, onesIn f % 2 = 0) →
    let t := deliverAll pairs u
    u.out = s.out ∧ t.out = s.out ++ frames.flatMap (fun f => [0x11, frameByte f]) ∧
    t.opcode = 0xF ∧ t.wcnt = 0 ∧ t.rcnt = 0 ∧ t.errCount = s.errCount ∧ t.refused = s.refused

/-- R154, R221: a bad frame ends the transaction with one pulse and no output, the rest of the dissector is as at
power-on but for `data`, `arg`, `rep`, `acc`, and the next good host frame is taken as a command
(decision D9, log entry 12). -/
def Obligations.ParityErrorStartsAfresh : Prop :=
  ∀ (s : State) (p q : Frame × Frame), Dissector s →
    onesIn (if hostToTarget s then p.1 else p.2) % 2 = 1 → onesIn q.1 % 2 = 0 →
    let t := deliver s p
    t.errCount = s.errCount + 1 ∧ t.out = s.out ∧
    dissectorPart t = (0xF, .idle, .idle, s.arg, s.data, false, 0, 0, s.rep, s.acc) ∧
    (deliver t q).opcode = opcodeField (frameByte q.1) ∧ (deliver t q).data = frameByte q.1 ∧
    (deliver t q).out = s.out ∧ (deliver t q).errCount = s.errCount + 1

/-- R206: every step keeps `out` a sequence of whole frames whose tags are 0x10 and 0x11 only (no error frame:
decision D11, log entry 10). -/
def Obligations.OutputStaysFramed : Prop :=
  ∀ s t : State, OutFramed s → step s = .next t → OutFramed t

/-- R201, R202, R203: what each output frame appends; the reserved error frame appends nothing. That
the rows run on their own is the model's choice (log entry 4). -/
def Obligations.OutputFramesAppendTheirBytes : Prop :=
  ∀ s : State,
    (∀ b3 b2 b1 b0 : Byte, exec (.outIdcode (b3 ++ b2 ++ b1 ++ b0)) s =
      .next { s with out := s.out ++ [0x10, b3, b2, b1, b0] }) ∧
    (∀ b : Byte, exec (.outPdi b) s = .next { s with out := s.out ++ [0x11, b] }) ∧
    exec .outErrorReserved s = .next s

/-- R204, R229: one step appends at most one whole frame, an IDCODE frame or a PDI event, and a step that counts a
parity error appends nothing. -/
def Obligations.StepAppendsAtMostOneFrame : Prop :=
  ∀ s t : State, step s = .next t →
    (t.out = s.out ∨ t.out = s.out ++ idcodeFrame s.idcode ∨ t.out = s.out ++ [0x11, t.data]) ∧
    (t.errCount = s.errCount ∨ (t.errCount = s.errCount + 1 ∧ t.out = s.out))

/-- Every run answers a next state: "no behaviour of this core is treated as `fault` or `stuck`"
(93_implementation_defined.md). That `k` steps take the first `k` turns is the model's list of turns (log entry 1). -/
def Obligations.NoRunStops : Prop :=
  ∀ (k : Nat) (s : State), ∃ t, Sys2Proof.core.run k s = .next t ∧ t.schedule = s.schedule.drop k

/-- R231: a bus step writes only what the bus agent owns and a processing step only what the processing agent owns;
neither writes a parameter. -/
def Obligations.AgentsWriteTheirOwnState : Prop :=
  ∀ s t : State, step s = .next t → t.cfg = s.cfg ∧
    ((∃ x rest, s.schedule = .bus x :: rest) → processingPart t = processingPart s) ∧
    ((∀ x rest, s.schedule ≠ .bus x :: rest) → busPart t = busPart s)

/-- R71 (3): along every run the accepted values of each mailbox are a subsequence of the committed ones, in commit
order, the value waiting at the start counting as committed first. -/
def Obligations.AcceptedValuesAreASubsequence : Prop :=
  ∀ (k : Nat) (s : State),
    (along acceptedPdi k s).Sublist (waitingPdi s ++ along committedPdi k s) ∧
    (along acceptedId k s).Sublist (waitingId s ++ along committedId k s)

/-- R69: under BUS_SLOW every committed value is accepted exactly once, in commit order; only the value still waiting
at the end is yet to come. The losses and the premise are decision D13 (log entry 13). -/
def Obligations.BusSlowLosesNothing : Prop :=
  ∀ (k : Nat) (s : State), s.fs = .idle → BusSlow k s →
    waitingPdi s ++ along committedPdi k s = along acceptedPdi k s ++ waitingPdi (steppedTimes k s) ∧
    waitingId s ++ along committedId k s = along acceptedId k s ++ waitingId (steppedTimes k s)

/-- R68, R248: after `k` commits to a consumed mailbox with no processing step between them, the last value waits if
`k` is odd and nothing waits if `k` is even; for both mailboxes. -/
def Obligations.EvenCommitsAreInvisible : Prop :=
  ∀ (s : State) (xs : List Sample),
    (s.pdiPending = false → waitingPdi (afterBus xs s) =
      if (along committedPdi xs.length (onBus xs s)).length % 2 = 1
      then (along committedPdi xs.length (onBus xs s)).getLast?.toList else []) ∧
    (s.idPending = false → waitingId (afterBus xs s) =
      if (along committedId xs.length (onBus xs s)).length % 2 = 1
      then (along committedId xs.length (onBus xs s)).getLast?.toList else [])

/-- R67: a miss step consumes the flag and does nothing else (decision D13, log entry 13). -/
def Obligations.MissStepsOnlyConsumeTheFlag : Prop :=
  ∀ (s : State) (rest : List Turn),
    (s.schedule = .missId :: rest → step s = .next { s with idSeen := s.idTgl, schedule := rest }) ∧
    (s.schedule = .missPdi :: rest → step s = .next { s with pdiSeen := s.pdiTgl, schedule := rest })

/-- R66: an enabled accept step consumes the flag and runs the IDCODE frame, or the frame of the PDI mailbox's active
direction; the PDI frame is taken in the frame machine's IDLE state (R149; log entry 14). -/
def Obligations.AcceptStepsRunTheirFrames : Prop :=
  ∀ (s : State) (rest : List Turn),
    (s.schedule = .acceptId :: rest → s.idTgl ≠ s.idSeen →
      step s = exec (.outIdcode s.idcode) { s with idSeen := s.idTgl, schedule := rest }) ∧
    (s.schedule = .acceptPdi :: rest → s.pdiTgl ≠ s.pdiSeen → s.fs = .idle →
      let f := if s.opcode = 0xF ∨ 0 < s.wcnt then s.pdiW else s.pdiR
      step s = exec (.pdiFrame (f.getLsbD 8) (f.extractLsb' 0 8)) { s with pdiSeen := s.pdiTgl, schedule := rest })

/-- R230: with both mailboxes waiting, the two orders of acceptance end alike but for the order of their whole
frames in `out` (decision D14, log entry 1). -/
def Obligations.AcceptanceOrderOnlyOrdersFrames : Prop :=
  ∀ s : State, s.idPending = true → s.pdiPending = true → s.fs = .idle →
    let t := steppedTimes 2 (s.setSchedule [.acceptId, .acceptPdi])
    let u := steppedTimes 2 (s.setSchedule [.acceptPdi, .acceptId])
    t = { u with out := t.out } ∧
    ∃ pdi, t.out = s.out ++ idcodeFrame s.idcode ++ pdi ∧ u.out = s.out ++ pdi ++ idcodeFrame s.idcode

/-- A step runs the fetched instruction: on a bus turn the decode of the TAP state and sample, and in general what
`fetch` gives, in the state with the turn taken; with no instruction only the turn is taken (R66, R100, R128). The
list of turns is the model's (log entry 1). -/
def Obligations.StepRunsTheFetchedInstruction : Prop :=
  (∀ (s : State) (i : Instr), fetch s = some i → step s = exec i (afterFetch s)) ∧
  (∀ s : State, fetch s = none → step s = .next (afterFetch s)) ∧
  (∀ (s : State) (x : Sample) (rest : List Turn), s.schedule = .bus x :: rest →
    ∃ i, decode s.cfg (.tapState s.tap x) = .ok i ∧ step s = exec i { s with schedule := rest })

/-- A command byte placed for the next step is run by it: the model's own way of placing one (log entry 3). -/
def Obligations.PlacedCommandByteRunsNext : Prop :=
  ∀ (s : State) (b : Byte), ∃ t, step (s.withFetchWord 8 b.toNat) = exec (decodeCommand b) t ∧
    decodeTableWord 8 b.toNat = some (decodeCommand b) ∧
    t = { s with opcode := 0xF, fs := .idle, pdiW := evenFrame b, pdiTgl := !s.pdiSeen, pdiSeen := !s.pdiSeen }

/-- Every well-formed instruction decodes from its encoding, with every operand at every value (30_encoding.md; the unit
for each format is the model's, log entry 5). -/
def Obligations.DecodeOfEncodeIsTheInstruction : Prop :=
  ∀ (c : Config) (i : Instr), i.wellFormed c = true → decode c (encode c i) = .ok i

/-- Each encoded unit has one meaning: what a unit decodes to is well-formed and encodes to that unit (log
entry 5). -/
def Obligations.EncodeOfDecodeIsTheUnit : Prop :=
  ∀ (c : Config) (w : Encoded) (i : Instr), decode c w = .ok i → i.wellFormed c = true ∧ encode c i = w

/-- Words written out from the spec's encodings decode to their instructions (R81, R82, R86, R89, R92). -/
def Obligations.WrittenOutWordsDecode : Prop :=
  decode Config.testVectors (.tapState .shiftDr ⟨false, true, false⟩) = .ok (.tapShiftDr false true false) ∧
  decode Config.testVectors (.ir4 0b0011) = .ok .irIdcode ∧
  decode Config.testVectors (.pdiFrame9 0b100100000) = .ok (.pdiFrame true 0b00100000) ∧
  decode Config.testVectors (.pdiCmd8 0b00001100) = .ok (.pdiLds 0b11 0b00) ∧
  decode Config.testVectors (.pdiCmd8 0b10000000) = .ok (.pdiReserved8 0b00 0b00) ∧
  decode Config.testVectors (.outFrame [0b00010001, 0b01010101]) = .ok (.outPdi 0b01010101)

/-- R184, R38 (exact counters: decision D8, log entry 12): every step keeps both counters at most 2^34. -/
def Obligations.CountersStayBounded : Prop :=
  ∀ s t : State, CountsBounded s → step s = .next t → CountsBounded t

/-- R39, R185: a step that changes `rep` accepts an LD or ST command, which zeroes it, or the last byte of a REPEAT
payload. -/
def Obligations.RepeatCountChangesOnlyByItsRules : Prop :=
  ∀ s t : State, step s = .next t → t.rep ≠ s.rep →
    (s.opcode = 0xF ∧ t.rep = 0 ∧ (t.opcode = 0x1 ∨ t.opcode = 0x3)) ∨
    (s.opcode ≠ 0xF ∧ s.cs = .captureRepeat ∧ s.wcnt = 1)

/-- R239, R243: no bus step, IDCODE step or miss touches an open transaction. -/
def Obligations.OpenTransactionsPersist : Prop :=
  ∀ s t : State, step s = .next t → (∀ rest, s.schedule ≠ .acceptPdi :: rest) →
    dissectorPart t = dissectorPart s ∧ t.errCount = s.errCount ∧ t.refused = s.refused

/-- R125: every sample is accepted in every state, and no sequence of samples faults, stops or refuses; a refusal of the
spec would show in `refused` (R14). -/
def Obligations.SamplesNeverFaultStopOrRefuse : Prop :=
  (∀ (s : State) (x : Sample), ∃ t, exec (decodeTap s.tap x) s = .next t ∧ t.refused = s.refused) ∧
  ∀ (s : State) (xs : List Sample), ∃ t,
    Sys2Proof.core.run xs.length (onBus xs s) = .next t ∧ t.refused = s.refused
end

