-- ==== Sys2Proof/Laws/Operands.lean ====
section
/-!
SUPPORT. The operand forms bit by bit and byte by byte, and parity as a count of ones.
-/

namespace Sys2Proof.Machine

/-- A shifted data register, bit by bit (R61). -/
theorem getLsbD_shiftIntoData (bit : Bool) (reg : Word) (k : Nat) :
    (shiftIntoData bit reg).getLsbD k = if k = 31 then bit else reg.getLsbD (k + 1) := by
  rw [shiftIntoData, BitVec.getLsbD_cons]
  split
  · rfl
  · rw [BitVec.getLsbD_extractLsb', Nat.add_comm]
    by_cases h : k < 31
    · simp [h]
    · simp only [h, decide_false, Bool.false_and]
      exact (BitVec.getLsbD_of_ge _ _ (by omega)).symm

/-- A shifted instruction register, bit by bit (R62). -/
theorem getLsbD_shiftIntoIr (bit : Bool) (reg : Nibble) (k : Nat) :
    (shiftIntoIr bit reg).getLsbD k = if k = 3 then bit else reg.getLsbD (k + 1) := by
  rw [shiftIntoIr, BitVec.getLsbD_cons]
  split
  · rfl
  · rw [BitVec.getLsbD_extractLsb', Nat.add_comm]
    by_cases h : k < 3
    · simp [h]
    · simp only [h, decide_false, Bool.false_and]
      exact (BitVec.getLsbD_of_ge _ _ (by omega)).symm

/-- A PDI frame's bits in the data register (R85). -/
theorem getLsbD_frameOfDataReg (reg : Word) (k : Nat) :
    (frameOfDataReg reg).getLsbD k = (decide (k < 9) && reg.getLsbD (22 + k)) :=
  BitVec.getLsbD_extractLsb' ..

/-- The frame field as a number (R85). -/
theorem frameOfDataReg_eq_ofNat (reg : Word) : frameOfDataReg reg = BitVec.ofNat 9 (reg.toNat / 2 ^ 22) := by
  apply BitVec.eq_of_toNat_eq
  simp [frameOfDataReg, Nat.shiftRight_eq_div_pow]

theorem idcodeSource_eq_ite (s : State) :
    idcodeSource s = if s.cfg.idcodeSrc = .tdi then s.dri else s.dro := by
  unfold idcodeSource
  cases s.cfg.idcodeSrc <;> rfl

/-- The four bytes of a word made of four bytes (R63, R201). -/
theorem bytes_of_wordOfBytes (b3 b2 b1 b0 : Byte) :
    (wordOfBytes b3 b2 b1 b0).extractLsb' 24 8 = b3 ∧ (wordOfBytes b3 b2 b1 b0).extractLsb' 16 8 = b2 ∧
    (wordOfBytes b3 b2 b1 b0).extractLsb' 8 8 = b1 ∧ (wordOfBytes b3 b2 b1 b0).extractLsb' 0 8 = b0 := by
  refine ⟨?_, ?_, ?_, ?_⟩ <;>
    (apply BitVec.eq_of_getLsbD_eq
     intro k hk
     rw [BitVec.getLsbD_extractLsb']
     simp only [wordOfBytes, BitVec.getLsbD_append]
     interval_cases k <;> simp)

/-- A word is made of its four bytes (R63, R201). -/
theorem wordOfBytes_of_bytes (v : Word) :
    wordOfBytes (v.extractLsb' 24 8) (v.extractLsb' 16 8) (v.extractLsb' 8 8) (v.extractLsb' 0 8) = v := by
  apply BitVec.eq_of_getLsbD_eq
  intro k hk
  simp only [wordOfBytes, BitVec.getLsbD_append, BitVec.getLsbD_extractLsb']
  interval_cases k <;> simp

/-- The parity of a frame is the parity of its number of ones (R142). -/
theorem xorReduce_iff_odd (f : Frame) : xorReduce f = true ↔ Safety.onesIn f % 2 = 1 := by
  revert f; decide

theorem xorReduce_eq_false_iff_even (f : Frame) : xorReduce f = false ↔ Safety.onesIn f % 2 = 0 := by
  revert f; decide

@[simp] theorem xorReduce_evenFrame (b : Byte) : xorReduce (evenFrame b) = false := by
  revert b; decide

@[simp] theorem frameByte_evenFrame (b : Byte) : frameByte (evenFrame b) = b := by
  revert b; decide

@[simp] theorem frameByte_frameOf (p : Bool) (d : Byte) : frameByte (frameOf p d) = d := by
  revert p d; decide

/-- The accumulator with one more byte below, as a number (R180). -/
theorem accumulate_eq_ofNat (acc : Word) (b : Byte) :
    (acc.extractLsb' 0 24 ++ b : Word) = BitVec.ofNat 32 (acc.toNat * 256 + b.toNat) := by
  apply BitVec.eq_of_toNat_eq
  have hb : b.toNat < 2 ^ 8 := b.isLt
  simp only [BitVec.toNat_append, BitVec.extractLsb'_toNat, BitVec.toNat_ofNat, Nat.shiftRight_zero]
  rw [← Nat.shiftLeft_add_eq_or_of_lt hb, Nat.shiftLeft_eq]
  omega

/-- A full repeat-count width of the accumulator, as a number (R181). -/
theorem repeatWidth_le (arg : Nibble) : 1 ≤ repeatWidth arg ∧ repeatWidth arg ≤ 4 := by
  revert arg; decide

theorem repeatWidth_eq (arg : Nibble) : repeatWidth arg = arg.toNat % 4 + 1 := by
  revert arg; decide

theorem byteSize_le (field : SizeField) : 1 ≤ byteSize field ∧ byteSize field ≤ 4 := by
  revert field; decide

end Sys2Proof.Machine
end

