-- ==== Sys2Proof/Laws/Exec.lean ====
section
/-!
SUPPORT. What each arm of `exec` answers, in terms of the shared operations.
-/

namespace Sys2Proof.Machine

variable (s : State)

@[simp] theorem exec_tapReset (tms tdi tdo : Bool) : exec (.tapReset tms tdi tdo) s = .next (advanceTap .reset tms (preloadIr s)) := rfl
@[simp] theorem exec_tapIdle (tms tdi tdo : Bool) : exec (.tapIdle tms tdi tdo) s = .next (advanceTap .idle tms s) := rfl
@[simp] theorem exec_tapSelectDr (tms tdi tdo : Bool) : exec (.tapSelectDr tms tdi tdo) s = .next (advanceTap .selectDr tms s) := rfl
@[simp] theorem exec_tapCaptureDr (tms tdi tdo : Bool) : exec (.tapCaptureDr tms tdi tdo) s = .next (advanceTap .captureDr tms s) := rfl
@[simp] theorem exec_tapShiftDr (tms tdi tdo : Bool) : exec (.tapShiftDr tms tdi tdo) s = .next (advanceTap .shiftDr tms (shiftData tdi tdo s)) := rfl
@[simp] theorem exec_tapExit1Dr (tms tdi tdo : Bool) : exec (.tapExit1Dr tms tdi tdo) s = .next (advanceTap .exit1Dr tms s) := rfl
@[simp] theorem exec_tapPauseDr (tms tdi tdo : Bool) : exec (.tapPauseDr tms tdi tdo) s = .next (advanceTap .pauseDr tms s) := rfl
@[simp] theorem exec_tapExit2Dr (tms tdi tdo : Bool) : exec (.tapExit2Dr tms tdi tdo) s = .next (advanceTap .exit2Dr tms s) := rfl
@[simp] theorem exec_tapUpdateDr (tms tdi tdo : Bool) : exec (.tapUpdateDr tms tdi tdo) s = .next (advanceTap .updateDr tms (updateData s)) := rfl
@[simp] theorem exec_tapSelectIr (tms tdi tdo : Bool) : exec (.tapSelectIr tms tdi tdo) s = .next (advanceTap .selectIr tms s) := rfl
@[simp] theorem exec_tapCaptureIr (tms tdi tdo : Bool) : exec (.tapCaptureIr tms tdi tdo) s = .next (advanceTap .captureIr tms s) := rfl
@[simp] theorem exec_tapShiftIr (tms tdi tdo : Bool) : exec (.tapShiftIr tms tdi tdo) s = .next (advanceTap .shiftIr tms (shiftIr tdi s)) := rfl
@[simp] theorem exec_tapExit1Ir (tms tdi tdo : Bool) : exec (.tapExit1Ir tms tdi tdo) s = .next (advanceTap .exit1Ir tms s) := rfl
@[simp] theorem exec_tapPauseIr (tms tdi tdo : Bool) : exec (.tapPauseIr tms tdi tdo) s = .next (advanceTap .pauseIr tms s) := rfl
@[simp] theorem exec_tapExit2Ir (tms tdi tdo : Bool) : exec (.tapExit2Ir tms tdi tdo) s = .next (advanceTap .exit2Ir tms s) := rfl
@[simp] theorem exec_tapUpdateIr (tms tdi tdo : Bool) : exec (.tapUpdateIr tms tdi tdo) s = .next (advanceTap .updateIr tms (updateIr s)) := rfl
@[simp] theorem exec_irIdcode : exec .irIdcode s = .next (commitIdcode s) := rfl
@[simp] theorem exec_irPdicom : exec .irPdicom s = .next (commitPdi s) := rfl
@[simp] theorem exec_irOther (ir : Nibble) : exec (.irOther ir) s = .next s := rfl
@[simp] theorem exec_pdiFrame (p : Bool) (d : Byte) : exec (.pdiFrame p d) s = .next (frameStep (frameOf p d) s) := rfl
@[simp] theorem exec_pdiLds (aa bb : SizeField) : exec (.pdiLds aa bb) s = .next (commandStep 0x0 aa bb (countLds aa bb) s) := rfl
@[simp] theorem exec_pdiLd (aa bb : SizeField) : exec (.pdiLd aa bb) s = .next (commandStep 0x1 aa bb (countLd bb) s) := rfl
@[simp] theorem exec_pdiSts (aa bb : SizeField) : exec (.pdiSts aa bb) s = .next (commandStep 0x2 aa bb (countSts aa bb) s) := rfl
@[simp] theorem exec_pdiSt (aa bb : SizeField) : exec (.pdiSt aa bb) s = .next (commandStep 0x3 aa bb (countSt bb) s) := rfl
@[simp] theorem exec_pdiLdcs (aa bb : SizeField) : exec (.pdiLdcs aa bb) s = .next (commandStep 0x4 aa bb countLdcs s) := rfl
@[simp] theorem exec_pdiRepeat (aa bb : SizeField) : exec (.pdiRepeat aa bb) s = .next (commandStep 0x5 aa bb (countRepeat bb) s) := rfl
@[simp] theorem exec_pdiStcs (aa bb : SizeField) : exec (.pdiStcs aa bb) s = .next (commandStep 0x6 aa bb countStcs s) := rfl
@[simp] theorem exec_pdiKey (aa bb : SizeField) : exec (.pdiKey aa bb) s = .next (commandStep 0x7 aa bb countKey s) := rfl
@[simp] theorem exec_pdiIdle (aa bb : SizeField) : exec (.pdiIdle aa bb) s = .next (commandStep 0xF aa bb countIdle s) := rfl
@[simp] theorem exec_pdiReserved8 (aa bb : SizeField) : exec (.pdiReserved8 aa bb) s = .next (commandStep 0x8 aa bb countReserved s) := rfl
@[simp] theorem exec_pdiReserved9 (aa bb : SizeField) : exec (.pdiReserved9 aa bb) s = .next (commandStep 0x9 aa bb countReserved s) := rfl
@[simp] theorem exec_pdiReservedA (aa bb : SizeField) : exec (.pdiReservedA aa bb) s = .next (commandStep 0xA aa bb countReserved s) := rfl
@[simp] theorem exec_pdiReservedB (aa bb : SizeField) : exec (.pdiReservedB aa bb) s = .next (commandStep 0xB aa bb countReserved s) := rfl
@[simp] theorem exec_pdiReservedC (aa bb : SizeField) : exec (.pdiReservedC aa bb) s = .next (commandStep 0xC aa bb countReserved s) := rfl
@[simp] theorem exec_pdiReservedD (aa bb : SizeField) : exec (.pdiReservedD aa bb) s = .next (commandStep 0xD aa bb countReserved s) := rfl
@[simp] theorem exec_pdiReservedE (aa bb : SizeField) : exec (.pdiReservedE aa bb) s = .next (commandStep 0xE aa bb countReserved s) := rfl
@[simp] theorem exec_outIdcode (value : Word) : exec (.outIdcode value) s = .next (emitIdcode value s) := rfl
@[simp] theorem exec_outPdi (byte : Byte) : exec (.outPdi byte) s = .next (emitPdi byte s) := rfl
@[simp] theorem exec_outErrorReserved : exec .outErrorReserved s = .next s := rfl

end Sys2Proof.Machine
end

