-- ==== Sys2Proof/Laws/State.lean ====
section
/-!
SUPPORT. What each named update of the state leaves in each field: one lemma per field per update.
-/

namespace Sys2Proof.Machine

variable (s : State)

@[simp] theorem State.setTap_cfg (t : TapState) : (s.setTap t).cfg = s.cfg := rfl
@[simp] theorem State.setTap_tap (t : TapState) : (s.setTap t).tap = t := rfl
@[simp] theorem State.setTap_ir (t : TapState) : (s.setTap t).ir = s.ir := rfl
@[simp] theorem State.setTap_irs (t : TapState) : (s.setTap t).irs = s.irs := rfl
@[simp] theorem State.setTap_dri (t : TapState) : (s.setTap t).dri = s.dri := rfl
@[simp] theorem State.setTap_dro (t : TapState) : (s.setTap t).dro = s.dro := rfl
@[simp] theorem State.setTap_idcode (t : TapState) : (s.setTap t).idcode = s.idcode := rfl
@[simp] theorem State.setTap_idTgl (t : TapState) : (s.setTap t).idTgl = s.idTgl := rfl
@[simp] theorem State.setTap_pdiW (t : TapState) : (s.setTap t).pdiW = s.pdiW := rfl
@[simp] theorem State.setTap_pdiR (t : TapState) : (s.setTap t).pdiR = s.pdiR := rfl
@[simp] theorem State.setTap_pdiTgl (t : TapState) : (s.setTap t).pdiTgl = s.pdiTgl := rfl
@[simp] theorem State.setTap_idSeen (t : TapState) : (s.setTap t).idSeen = s.idSeen := rfl
@[simp] theorem State.setTap_pdiSeen (t : TapState) : (s.setTap t).pdiSeen = s.pdiSeen := rfl
@[simp] theorem State.setTap_opcode (t : TapState) : (s.setTap t).opcode = s.opcode := rfl
@[simp] theorem State.setTap_fs (t : TapState) : (s.setTap t).fs = s.fs := rfl
@[simp] theorem State.setTap_cs (t : TapState) : (s.setTap t).cs = s.cs := rfl
@[simp] theorem State.setTap_arg (t : TapState) : (s.setTap t).arg = s.arg := rfl
@[simp] theorem State.setTap_data (t : TapState) : (s.setTap t).data = s.data := rfl
@[simp] theorem State.setTap_upd (t : TapState) : (s.setTap t).upd = s.upd := rfl
@[simp] theorem State.setTap_wcnt (t : TapState) : (s.setTap t).wcnt = s.wcnt := rfl
@[simp] theorem State.setTap_rcnt (t : TapState) : (s.setTap t).rcnt = s.rcnt := rfl
@[simp] theorem State.setTap_rep (t : TapState) : (s.setTap t).rep = s.rep := rfl
@[simp] theorem State.setTap_acc (t : TapState) : (s.setTap t).acc = s.acc := rfl
@[simp] theorem State.setTap_out (t : TapState) : (s.setTap t).out = s.out := rfl
@[simp] theorem State.setTap_errCount (t : TapState) : (s.setTap t).errCount = s.errCount := rfl
@[simp] theorem State.setTap_refused (t : TapState) : (s.setTap t).refused = s.refused := rfl
@[simp] theorem State.setTap_schedule (t : TapState) : (s.setTap t).schedule = s.schedule := rfl

@[simp] theorem State.setIr_cfg (v : Nibble) : (s.setIr v).cfg = s.cfg := rfl
@[simp] theorem State.setIr_tap (v : Nibble) : (s.setIr v).tap = s.tap := rfl
@[simp] theorem State.setIr_ir (v : Nibble) : (s.setIr v).ir = v := rfl
@[simp] theorem State.setIr_irs (v : Nibble) : (s.setIr v).irs = s.irs := rfl
@[simp] theorem State.setIr_dri (v : Nibble) : (s.setIr v).dri = s.dri := rfl
@[simp] theorem State.setIr_dro (v : Nibble) : (s.setIr v).dro = s.dro := rfl
@[simp] theorem State.setIr_idcode (v : Nibble) : (s.setIr v).idcode = s.idcode := rfl
@[simp] theorem State.setIr_idTgl (v : Nibble) : (s.setIr v).idTgl = s.idTgl := rfl
@[simp] theorem State.setIr_pdiW (v : Nibble) : (s.setIr v).pdiW = s.pdiW := rfl
@[simp] theorem State.setIr_pdiR (v : Nibble) : (s.setIr v).pdiR = s.pdiR := rfl
@[simp] theorem State.setIr_pdiTgl (v : Nibble) : (s.setIr v).pdiTgl = s.pdiTgl := rfl
@[simp] theorem State.setIr_idSeen (v : Nibble) : (s.setIr v).idSeen = s.idSeen := rfl
@[simp] theorem State.setIr_pdiSeen (v : Nibble) : (s.setIr v).pdiSeen = s.pdiSeen := rfl
@[simp] theorem State.setIr_opcode (v : Nibble) : (s.setIr v).opcode = s.opcode := rfl
@[simp] theorem State.setIr_fs (v : Nibble) : (s.setIr v).fs = s.fs := rfl
@[simp] theorem State.setIr_cs (v : Nibble) : (s.setIr v).cs = s.cs := rfl
@[simp] theorem State.setIr_arg (v : Nibble) : (s.setIr v).arg = s.arg := rfl
@[simp] theorem State.setIr_data (v : Nibble) : (s.setIr v).data = s.data := rfl
@[simp] theorem State.setIr_upd (v : Nibble) : (s.setIr v).upd = s.upd := rfl
@[simp] theorem State.setIr_wcnt (v : Nibble) : (s.setIr v).wcnt = s.wcnt := rfl
@[simp] theorem State.setIr_rcnt (v : Nibble) : (s.setIr v).rcnt = s.rcnt := rfl
@[simp] theorem State.setIr_rep (v : Nibble) : (s.setIr v).rep = s.rep := rfl
@[simp] theorem State.setIr_acc (v : Nibble) : (s.setIr v).acc = s.acc := rfl
@[simp] theorem State.setIr_out (v : Nibble) : (s.setIr v).out = s.out := rfl
@[simp] theorem State.setIr_errCount (v : Nibble) : (s.setIr v).errCount = s.errCount := rfl
@[simp] theorem State.setIr_refused (v : Nibble) : (s.setIr v).refused = s.refused := rfl
@[simp] theorem State.setIr_schedule (v : Nibble) : (s.setIr v).schedule = s.schedule := rfl

@[simp] theorem State.setIrs_cfg (v : Nibble) : (s.setIrs v).cfg = s.cfg := rfl
@[simp] theorem State.setIrs_tap (v : Nibble) : (s.setIrs v).tap = s.tap := rfl
@[simp] theorem State.setIrs_ir (v : Nibble) : (s.setIrs v).ir = s.ir := rfl
@[simp] theorem State.setIrs_irs (v : Nibble) : (s.setIrs v).irs = v := rfl
@[simp] theorem State.setIrs_dri (v : Nibble) : (s.setIrs v).dri = s.dri := rfl
@[simp] theorem State.setIrs_dro (v : Nibble) : (s.setIrs v).dro = s.dro := rfl
@[simp] theorem State.setIrs_idcode (v : Nibble) : (s.setIrs v).idcode = s.idcode := rfl
@[simp] theorem State.setIrs_idTgl (v : Nibble) : (s.setIrs v).idTgl = s.idTgl := rfl
@[simp] theorem State.setIrs_pdiW (v : Nibble) : (s.setIrs v).pdiW = s.pdiW := rfl
@[simp] theorem State.setIrs_pdiR (v : Nibble) : (s.setIrs v).pdiR = s.pdiR := rfl
@[simp] theorem State.setIrs_pdiTgl (v : Nibble) : (s.setIrs v).pdiTgl = s.pdiTgl := rfl
@[simp] theorem State.setIrs_idSeen (v : Nibble) : (s.setIrs v).idSeen = s.idSeen := rfl
@[simp] theorem State.setIrs_pdiSeen (v : Nibble) : (s.setIrs v).pdiSeen = s.pdiSeen := rfl
@[simp] theorem State.setIrs_opcode (v : Nibble) : (s.setIrs v).opcode = s.opcode := rfl
@[simp] theorem State.setIrs_fs (v : Nibble) : (s.setIrs v).fs = s.fs := rfl
@[simp] theorem State.setIrs_cs (v : Nibble) : (s.setIrs v).cs = s.cs := rfl
@[simp] theorem State.setIrs_arg (v : Nibble) : (s.setIrs v).arg = s.arg := rfl
@[simp] theorem State.setIrs_data (v : Nibble) : (s.setIrs v).data = s.data := rfl
@[simp] theorem State.setIrs_upd (v : Nibble) : (s.setIrs v).upd = s.upd := rfl
@[simp] theorem State.setIrs_wcnt (v : Nibble) : (s.setIrs v).wcnt = s.wcnt := rfl
@[simp] theorem State.setIrs_rcnt (v : Nibble) : (s.setIrs v).rcnt = s.rcnt := rfl
@[simp] theorem State.setIrs_rep (v : Nibble) : (s.setIrs v).rep = s.rep := rfl
@[simp] theorem State.setIrs_acc (v : Nibble) : (s.setIrs v).acc = s.acc := rfl
@[simp] theorem State.setIrs_out (v : Nibble) : (s.setIrs v).out = s.out := rfl
@[simp] theorem State.setIrs_errCount (v : Nibble) : (s.setIrs v).errCount = s.errCount := rfl
@[simp] theorem State.setIrs_refused (v : Nibble) : (s.setIrs v).refused = s.refused := rfl
@[simp] theorem State.setIrs_schedule (v : Nibble) : (s.setIrs v).schedule = s.schedule := rfl

@[simp] theorem State.setDataRegs_cfg (i o : Word) : (s.setDataRegs i o).cfg = s.cfg := rfl
@[simp] theorem State.setDataRegs_tap (i o : Word) : (s.setDataRegs i o).tap = s.tap := rfl
@[simp] theorem State.setDataRegs_ir (i o : Word) : (s.setDataRegs i o).ir = s.ir := rfl
@[simp] theorem State.setDataRegs_irs (i o : Word) : (s.setDataRegs i o).irs = s.irs := rfl
@[simp] theorem State.setDataRegs_dri (i o : Word) : (s.setDataRegs i o).dri = i := rfl
@[simp] theorem State.setDataRegs_dro (i o : Word) : (s.setDataRegs i o).dro = o := rfl
@[simp] theorem State.setDataRegs_idcode (i o : Word) : (s.setDataRegs i o).idcode = s.idcode := rfl
@[simp] theorem State.setDataRegs_idTgl (i o : Word) : (s.setDataRegs i o).idTgl = s.idTgl := rfl
@[simp] theorem State.setDataRegs_pdiW (i o : Word) : (s.setDataRegs i o).pdiW = s.pdiW := rfl
@[simp] theorem State.setDataRegs_pdiR (i o : Word) : (s.setDataRegs i o).pdiR = s.pdiR := rfl
@[simp] theorem State.setDataRegs_pdiTgl (i o : Word) : (s.setDataRegs i o).pdiTgl = s.pdiTgl := rfl
@[simp] theorem State.setDataRegs_idSeen (i o : Word) : (s.setDataRegs i o).idSeen = s.idSeen := rfl
@[simp] theorem State.setDataRegs_pdiSeen (i o : Word) : (s.setDataRegs i o).pdiSeen = s.pdiSeen := rfl
@[simp] theorem State.setDataRegs_opcode (i o : Word) : (s.setDataRegs i o).opcode = s.opcode := rfl
@[simp] theorem State.setDataRegs_fs (i o : Word) : (s.setDataRegs i o).fs = s.fs := rfl
@[simp] theorem State.setDataRegs_cs (i o : Word) : (s.setDataRegs i o).cs = s.cs := rfl
@[simp] theorem State.setDataRegs_arg (i o : Word) : (s.setDataRegs i o).arg = s.arg := rfl
@[simp] theorem State.setDataRegs_data (i o : Word) : (s.setDataRegs i o).data = s.data := rfl
@[simp] theorem State.setDataRegs_upd (i o : Word) : (s.setDataRegs i o).upd = s.upd := rfl
@[simp] theorem State.setDataRegs_wcnt (i o : Word) : (s.setDataRegs i o).wcnt = s.wcnt := rfl
@[simp] theorem State.setDataRegs_rcnt (i o : Word) : (s.setDataRegs i o).rcnt = s.rcnt := rfl
@[simp] theorem State.setDataRegs_rep (i o : Word) : (s.setDataRegs i o).rep = s.rep := rfl
@[simp] theorem State.setDataRegs_acc (i o : Word) : (s.setDataRegs i o).acc = s.acc := rfl
@[simp] theorem State.setDataRegs_out (i o : Word) : (s.setDataRegs i o).out = s.out := rfl
@[simp] theorem State.setDataRegs_errCount (i o : Word) : (s.setDataRegs i o).errCount = s.errCount := rfl
@[simp] theorem State.setDataRegs_refused (i o : Word) : (s.setDataRegs i o).refused = s.refused := rfl
@[simp] theorem State.setDataRegs_schedule (i o : Word) : (s.setDataRegs i o).schedule = s.schedule := rfl

@[simp] theorem State.postIdcode_cfg (v : Word) : (s.postIdcode v).cfg = s.cfg := rfl
@[simp] theorem State.postIdcode_tap (v : Word) : (s.postIdcode v).tap = s.tap := rfl
@[simp] theorem State.postIdcode_ir (v : Word) : (s.postIdcode v).ir = s.ir := rfl
@[simp] theorem State.postIdcode_irs (v : Word) : (s.postIdcode v).irs = s.irs := rfl
@[simp] theorem State.postIdcode_dri (v : Word) : (s.postIdcode v).dri = s.dri := rfl
@[simp] theorem State.postIdcode_dro (v : Word) : (s.postIdcode v).dro = s.dro := rfl
@[simp] theorem State.postIdcode_idcode (v : Word) : (s.postIdcode v).idcode = v := rfl
@[simp] theorem State.postIdcode_idTgl (v : Word) : (s.postIdcode v).idTgl = !s.idTgl := rfl
@[simp] theorem State.postIdcode_pdiW (v : Word) : (s.postIdcode v).pdiW = s.pdiW := rfl
@[simp] theorem State.postIdcode_pdiR (v : Word) : (s.postIdcode v).pdiR = s.pdiR := rfl
@[simp] theorem State.postIdcode_pdiTgl (v : Word) : (s.postIdcode v).pdiTgl = s.pdiTgl := rfl
@[simp] theorem State.postIdcode_idSeen (v : Word) : (s.postIdcode v).idSeen = s.idSeen := rfl
@[simp] theorem State.postIdcode_pdiSeen (v : Word) : (s.postIdcode v).pdiSeen = s.pdiSeen := rfl
@[simp] theorem State.postIdcode_opcode (v : Word) : (s.postIdcode v).opcode = s.opcode := rfl
@[simp] theorem State.postIdcode_fs (v : Word) : (s.postIdcode v).fs = s.fs := rfl
@[simp] theorem State.postIdcode_cs (v : Word) : (s.postIdcode v).cs = s.cs := rfl
@[simp] theorem State.postIdcode_arg (v : Word) : (s.postIdcode v).arg = s.arg := rfl
@[simp] theorem State.postIdcode_data (v : Word) : (s.postIdcode v).data = s.data := rfl
@[simp] theorem State.postIdcode_upd (v : Word) : (s.postIdcode v).upd = s.upd := rfl
@[simp] theorem State.postIdcode_wcnt (v : Word) : (s.postIdcode v).wcnt = s.wcnt := rfl
@[simp] theorem State.postIdcode_rcnt (v : Word) : (s.postIdcode v).rcnt = s.rcnt := rfl
@[simp] theorem State.postIdcode_rep (v : Word) : (s.postIdcode v).rep = s.rep := rfl
@[simp] theorem State.postIdcode_acc (v : Word) : (s.postIdcode v).acc = s.acc := rfl
@[simp] theorem State.postIdcode_out (v : Word) : (s.postIdcode v).out = s.out := rfl
@[simp] theorem State.postIdcode_errCount (v : Word) : (s.postIdcode v).errCount = s.errCount := rfl
@[simp] theorem State.postIdcode_refused (v : Word) : (s.postIdcode v).refused = s.refused := rfl
@[simp] theorem State.postIdcode_schedule (v : Word) : (s.postIdcode v).schedule = s.schedule := rfl

@[simp] theorem State.postPdi_cfg (w r : Frame) : (s.postPdi w r).cfg = s.cfg := rfl
@[simp] theorem State.postPdi_tap (w r : Frame) : (s.postPdi w r).tap = s.tap := rfl
@[simp] theorem State.postPdi_ir (w r : Frame) : (s.postPdi w r).ir = s.ir := rfl
@[simp] theorem State.postPdi_irs (w r : Frame) : (s.postPdi w r).irs = s.irs := rfl
@[simp] theorem State.postPdi_dri (w r : Frame) : (s.postPdi w r).dri = s.dri := rfl
@[simp] theorem State.postPdi_dro (w r : Frame) : (s.postPdi w r).dro = s.dro := rfl
@[simp] theorem State.postPdi_idcode (w r : Frame) : (s.postPdi w r).idcode = s.idcode := rfl
@[simp] theorem State.postPdi_idTgl (w r : Frame) : (s.postPdi w r).idTgl = s.idTgl := rfl
@[simp] theorem State.postPdi_pdiW (w r : Frame) : (s.postPdi w r).pdiW = w := rfl
@[simp] theorem State.postPdi_pdiR (w r : Frame) : (s.postPdi w r).pdiR = r := rfl
@[simp] theorem State.postPdi_pdiTgl (w r : Frame) : (s.postPdi w r).pdiTgl = !s.pdiTgl := rfl
@[simp] theorem State.postPdi_idSeen (w r : Frame) : (s.postPdi w r).idSeen = s.idSeen := rfl
@[simp] theorem State.postPdi_pdiSeen (w r : Frame) : (s.postPdi w r).pdiSeen = s.pdiSeen := rfl
@[simp] theorem State.postPdi_opcode (w r : Frame) : (s.postPdi w r).opcode = s.opcode := rfl
@[simp] theorem State.postPdi_fs (w r : Frame) : (s.postPdi w r).fs = s.fs := rfl
@[simp] theorem State.postPdi_cs (w r : Frame) : (s.postPdi w r).cs = s.cs := rfl
@[simp] theorem State.postPdi_arg (w r : Frame) : (s.postPdi w r).arg = s.arg := rfl
@[simp] theorem State.postPdi_data (w r : Frame) : (s.postPdi w r).data = s.data := rfl
@[simp] theorem State.postPdi_upd (w r : Frame) : (s.postPdi w r).upd = s.upd := rfl
@[simp] theorem State.postPdi_wcnt (w r : Frame) : (s.postPdi w r).wcnt = s.wcnt := rfl
@[simp] theorem State.postPdi_rcnt (w r : Frame) : (s.postPdi w r).rcnt = s.rcnt := rfl
@[simp] theorem State.postPdi_rep (w r : Frame) : (s.postPdi w r).rep = s.rep := rfl
@[simp] theorem State.postPdi_acc (w r : Frame) : (s.postPdi w r).acc = s.acc := rfl
@[simp] theorem State.postPdi_out (w r : Frame) : (s.postPdi w r).out = s.out := rfl
@[simp] theorem State.postPdi_errCount (w r : Frame) : (s.postPdi w r).errCount = s.errCount := rfl
@[simp] theorem State.postPdi_refused (w r : Frame) : (s.postPdi w r).refused = s.refused := rfl
@[simp] theorem State.postPdi_schedule (w r : Frame) : (s.postPdi w r).schedule = s.schedule := rfl

@[simp] theorem State.seeIdcode_cfg : (s.seeIdcode).cfg = s.cfg := rfl
@[simp] theorem State.seeIdcode_tap : (s.seeIdcode).tap = s.tap := rfl
@[simp] theorem State.seeIdcode_ir : (s.seeIdcode).ir = s.ir := rfl
@[simp] theorem State.seeIdcode_irs : (s.seeIdcode).irs = s.irs := rfl
@[simp] theorem State.seeIdcode_dri : (s.seeIdcode).dri = s.dri := rfl
@[simp] theorem State.seeIdcode_dro : (s.seeIdcode).dro = s.dro := rfl
@[simp] theorem State.seeIdcode_idcode : (s.seeIdcode).idcode = s.idcode := rfl
@[simp] theorem State.seeIdcode_idTgl : (s.seeIdcode).idTgl = s.idTgl := rfl
@[simp] theorem State.seeIdcode_pdiW : (s.seeIdcode).pdiW = s.pdiW := rfl
@[simp] theorem State.seeIdcode_pdiR : (s.seeIdcode).pdiR = s.pdiR := rfl
@[simp] theorem State.seeIdcode_pdiTgl : (s.seeIdcode).pdiTgl = s.pdiTgl := rfl
@[simp] theorem State.seeIdcode_idSeen : (s.seeIdcode).idSeen = s.idTgl := rfl
@[simp] theorem State.seeIdcode_pdiSeen : (s.seeIdcode).pdiSeen = s.pdiSeen := rfl
@[simp] theorem State.seeIdcode_opcode : (s.seeIdcode).opcode = s.opcode := rfl
@[simp] theorem State.seeIdcode_fs : (s.seeIdcode).fs = s.fs := rfl
@[simp] theorem State.seeIdcode_cs : (s.seeIdcode).cs = s.cs := rfl
@[simp] theorem State.seeIdcode_arg : (s.seeIdcode).arg = s.arg := rfl
@[simp] theorem State.seeIdcode_data : (s.seeIdcode).data = s.data := rfl
@[simp] theorem State.seeIdcode_upd : (s.seeIdcode).upd = s.upd := rfl
@[simp] theorem State.seeIdcode_wcnt : (s.seeIdcode).wcnt = s.wcnt := rfl
@[simp] theorem State.seeIdcode_rcnt : (s.seeIdcode).rcnt = s.rcnt := rfl
@[simp] theorem State.seeIdcode_rep : (s.seeIdcode).rep = s.rep := rfl
@[simp] theorem State.seeIdcode_acc : (s.seeIdcode).acc = s.acc := rfl
@[simp] theorem State.seeIdcode_out : (s.seeIdcode).out = s.out := rfl
@[simp] theorem State.seeIdcode_errCount : (s.seeIdcode).errCount = s.errCount := rfl
@[simp] theorem State.seeIdcode_refused : (s.seeIdcode).refused = s.refused := rfl
@[simp] theorem State.seeIdcode_schedule : (s.seeIdcode).schedule = s.schedule := rfl

@[simp] theorem State.seePdi_cfg : (s.seePdi).cfg = s.cfg := rfl
@[simp] theorem State.seePdi_tap : (s.seePdi).tap = s.tap := rfl
@[simp] theorem State.seePdi_ir : (s.seePdi).ir = s.ir := rfl
@[simp] theorem State.seePdi_irs : (s.seePdi).irs = s.irs := rfl
@[simp] theorem State.seePdi_dri : (s.seePdi).dri = s.dri := rfl
@[simp] theorem State.seePdi_dro : (s.seePdi).dro = s.dro := rfl
@[simp] theorem State.seePdi_idcode : (s.seePdi).idcode = s.idcode := rfl
@[simp] theorem State.seePdi_idTgl : (s.seePdi).idTgl = s.idTgl := rfl
@[simp] theorem State.seePdi_pdiW : (s.seePdi).pdiW = s.pdiW := rfl
@[simp] theorem State.seePdi_pdiR : (s.seePdi).pdiR = s.pdiR := rfl
@[simp] theorem State.seePdi_pdiTgl : (s.seePdi).pdiTgl = s.pdiTgl := rfl
@[simp] theorem State.seePdi_idSeen : (s.seePdi).idSeen = s.idSeen := rfl
@[simp] theorem State.seePdi_pdiSeen : (s.seePdi).pdiSeen = s.pdiTgl := rfl
@[simp] theorem State.seePdi_opcode : (s.seePdi).opcode = s.opcode := rfl
@[simp] theorem State.seePdi_fs : (s.seePdi).fs = s.fs := rfl
@[simp] theorem State.seePdi_cs : (s.seePdi).cs = s.cs := rfl
@[simp] theorem State.seePdi_arg : (s.seePdi).arg = s.arg := rfl
@[simp] theorem State.seePdi_data : (s.seePdi).data = s.data := rfl
@[simp] theorem State.seePdi_upd : (s.seePdi).upd = s.upd := rfl
@[simp] theorem State.seePdi_wcnt : (s.seePdi).wcnt = s.wcnt := rfl
@[simp] theorem State.seePdi_rcnt : (s.seePdi).rcnt = s.rcnt := rfl
@[simp] theorem State.seePdi_rep : (s.seePdi).rep = s.rep := rfl
@[simp] theorem State.seePdi_acc : (s.seePdi).acc = s.acc := rfl
@[simp] theorem State.seePdi_out : (s.seePdi).out = s.out := rfl
@[simp] theorem State.seePdi_errCount : (s.seePdi).errCount = s.errCount := rfl
@[simp] theorem State.seePdi_refused : (s.seePdi).refused = s.refused := rfl
@[simp] theorem State.seePdi_schedule : (s.seePdi).schedule = s.schedule := rfl

@[simp] theorem State.setOpcode_cfg (v : Nibble) : (s.setOpcode v).cfg = s.cfg := rfl
@[simp] theorem State.setOpcode_tap (v : Nibble) : (s.setOpcode v).tap = s.tap := rfl
@[simp] theorem State.setOpcode_ir (v : Nibble) : (s.setOpcode v).ir = s.ir := rfl
@[simp] theorem State.setOpcode_irs (v : Nibble) : (s.setOpcode v).irs = s.irs := rfl
@[simp] theorem State.setOpcode_dri (v : Nibble) : (s.setOpcode v).dri = s.dri := rfl
@[simp] theorem State.setOpcode_dro (v : Nibble) : (s.setOpcode v).dro = s.dro := rfl
@[simp] theorem State.setOpcode_idcode (v : Nibble) : (s.setOpcode v).idcode = s.idcode := rfl
@[simp] theorem State.setOpcode_idTgl (v : Nibble) : (s.setOpcode v).idTgl = s.idTgl := rfl
@[simp] theorem State.setOpcode_pdiW (v : Nibble) : (s.setOpcode v).pdiW = s.pdiW := rfl
@[simp] theorem State.setOpcode_pdiR (v : Nibble) : (s.setOpcode v).pdiR = s.pdiR := rfl
@[simp] theorem State.setOpcode_pdiTgl (v : Nibble) : (s.setOpcode v).pdiTgl = s.pdiTgl := rfl
@[simp] theorem State.setOpcode_idSeen (v : Nibble) : (s.setOpcode v).idSeen = s.idSeen := rfl
@[simp] theorem State.setOpcode_pdiSeen (v : Nibble) : (s.setOpcode v).pdiSeen = s.pdiSeen := rfl
@[simp] theorem State.setOpcode_opcode (v : Nibble) : (s.setOpcode v).opcode = v := rfl
@[simp] theorem State.setOpcode_fs (v : Nibble) : (s.setOpcode v).fs = s.fs := rfl
@[simp] theorem State.setOpcode_cs (v : Nibble) : (s.setOpcode v).cs = s.cs := rfl
@[simp] theorem State.setOpcode_arg (v : Nibble) : (s.setOpcode v).arg = s.arg := rfl
@[simp] theorem State.setOpcode_data (v : Nibble) : (s.setOpcode v).data = s.data := rfl
@[simp] theorem State.setOpcode_upd (v : Nibble) : (s.setOpcode v).upd = s.upd := rfl
@[simp] theorem State.setOpcode_wcnt (v : Nibble) : (s.setOpcode v).wcnt = s.wcnt := rfl
@[simp] theorem State.setOpcode_rcnt (v : Nibble) : (s.setOpcode v).rcnt = s.rcnt := rfl
@[simp] theorem State.setOpcode_rep (v : Nibble) : (s.setOpcode v).rep = s.rep := rfl
@[simp] theorem State.setOpcode_acc (v : Nibble) : (s.setOpcode v).acc = s.acc := rfl
@[simp] theorem State.setOpcode_out (v : Nibble) : (s.setOpcode v).out = s.out := rfl
@[simp] theorem State.setOpcode_errCount (v : Nibble) : (s.setOpcode v).errCount = s.errCount := rfl
@[simp] theorem State.setOpcode_refused (v : Nibble) : (s.setOpcode v).refused = s.refused := rfl
@[simp] theorem State.setOpcode_schedule (v : Nibble) : (s.setOpcode v).schedule = s.schedule := rfl

@[simp] theorem State.setFs_cfg (v : FrameState) : (s.setFs v).cfg = s.cfg := rfl
@[simp] theorem State.setFs_tap (v : FrameState) : (s.setFs v).tap = s.tap := rfl
@[simp] theorem State.setFs_ir (v : FrameState) : (s.setFs v).ir = s.ir := rfl
@[simp] theorem State.setFs_irs (v : FrameState) : (s.setFs v).irs = s.irs := rfl
@[simp] theorem State.setFs_dri (v : FrameState) : (s.setFs v).dri = s.dri := rfl
@[simp] theorem State.setFs_dro (v : FrameState) : (s.setFs v).dro = s.dro := rfl
@[simp] theorem State.setFs_idcode (v : FrameState) : (s.setFs v).idcode = s.idcode := rfl
@[simp] theorem State.setFs_idTgl (v : FrameState) : (s.setFs v).idTgl = s.idTgl := rfl
@[simp] theorem State.setFs_pdiW (v : FrameState) : (s.setFs v).pdiW = s.pdiW := rfl
@[simp] theorem State.setFs_pdiR (v : FrameState) : (s.setFs v).pdiR = s.pdiR := rfl
@[simp] theorem State.setFs_pdiTgl (v : FrameState) : (s.setFs v).pdiTgl = s.pdiTgl := rfl
@[simp] theorem State.setFs_idSeen (v : FrameState) : (s.setFs v).idSeen = s.idSeen := rfl
@[simp] theorem State.setFs_pdiSeen (v : FrameState) : (s.setFs v).pdiSeen = s.pdiSeen := rfl
@[simp] theorem State.setFs_opcode (v : FrameState) : (s.setFs v).opcode = s.opcode := rfl
@[simp] theorem State.setFs_fs (v : FrameState) : (s.setFs v).fs = v := rfl
@[simp] theorem State.setFs_cs (v : FrameState) : (s.setFs v).cs = s.cs := rfl
@[simp] theorem State.setFs_arg (v : FrameState) : (s.setFs v).arg = s.arg := rfl
@[simp] theorem State.setFs_data (v : FrameState) : (s.setFs v).data = s.data := rfl
@[simp] theorem State.setFs_upd (v : FrameState) : (s.setFs v).upd = s.upd := rfl
@[simp] theorem State.setFs_wcnt (v : FrameState) : (s.setFs v).wcnt = s.wcnt := rfl
@[simp] theorem State.setFs_rcnt (v : FrameState) : (s.setFs v).rcnt = s.rcnt := rfl
@[simp] theorem State.setFs_rep (v : FrameState) : (s.setFs v).rep = s.rep := rfl
@[simp] theorem State.setFs_acc (v : FrameState) : (s.setFs v).acc = s.acc := rfl
@[simp] theorem State.setFs_out (v : FrameState) : (s.setFs v).out = s.out := rfl
@[simp] theorem State.setFs_errCount (v : FrameState) : (s.setFs v).errCount = s.errCount := rfl
@[simp] theorem State.setFs_refused (v : FrameState) : (s.setFs v).refused = s.refused := rfl
@[simp] theorem State.setFs_schedule (v : FrameState) : (s.setFs v).schedule = s.schedule := rfl

@[simp] theorem State.setCs_cfg (v : CountState) : (s.setCs v).cfg = s.cfg := rfl
@[simp] theorem State.setCs_tap (v : CountState) : (s.setCs v).tap = s.tap := rfl
@[simp] theorem State.setCs_ir (v : CountState) : (s.setCs v).ir = s.ir := rfl
@[simp] theorem State.setCs_irs (v : CountState) : (s.setCs v).irs = s.irs := rfl
@[simp] theorem State.setCs_dri (v : CountState) : (s.setCs v).dri = s.dri := rfl
@[simp] theorem State.setCs_dro (v : CountState) : (s.setCs v).dro = s.dro := rfl
@[simp] theorem State.setCs_idcode (v : CountState) : (s.setCs v).idcode = s.idcode := rfl
@[simp] theorem State.setCs_idTgl (v : CountState) : (s.setCs v).idTgl = s.idTgl := rfl
@[simp] theorem State.setCs_pdiW (v : CountState) : (s.setCs v).pdiW = s.pdiW := rfl
@[simp] theorem State.setCs_pdiR (v : CountState) : (s.setCs v).pdiR = s.pdiR := rfl
@[simp] theorem State.setCs_pdiTgl (v : CountState) : (s.setCs v).pdiTgl = s.pdiTgl := rfl
@[simp] theorem State.setCs_idSeen (v : CountState) : (s.setCs v).idSeen = s.idSeen := rfl
@[simp] theorem State.setCs_pdiSeen (v : CountState) : (s.setCs v).pdiSeen = s.pdiSeen := rfl
@[simp] theorem State.setCs_opcode (v : CountState) : (s.setCs v).opcode = s.opcode := rfl
@[simp] theorem State.setCs_fs (v : CountState) : (s.setCs v).fs = s.fs := rfl
@[simp] theorem State.setCs_cs (v : CountState) : (s.setCs v).cs = v := rfl
@[simp] theorem State.setCs_arg (v : CountState) : (s.setCs v).arg = s.arg := rfl
@[simp] theorem State.setCs_data (v : CountState) : (s.setCs v).data = s.data := rfl
@[simp] theorem State.setCs_upd (v : CountState) : (s.setCs v).upd = s.upd := rfl
@[simp] theorem State.setCs_wcnt (v : CountState) : (s.setCs v).wcnt = s.wcnt := rfl
@[simp] theorem State.setCs_rcnt (v : CountState) : (s.setCs v).rcnt = s.rcnt := rfl
@[simp] theorem State.setCs_rep (v : CountState) : (s.setCs v).rep = s.rep := rfl
@[simp] theorem State.setCs_acc (v : CountState) : (s.setCs v).acc = s.acc := rfl
@[simp] theorem State.setCs_out (v : CountState) : (s.setCs v).out = s.out := rfl
@[simp] theorem State.setCs_errCount (v : CountState) : (s.setCs v).errCount = s.errCount := rfl
@[simp] theorem State.setCs_refused (v : CountState) : (s.setCs v).refused = s.refused := rfl
@[simp] theorem State.setCs_schedule (v : CountState) : (s.setCs v).schedule = s.schedule := rfl

@[simp] theorem State.setArg_cfg (v : Nibble) : (s.setArg v).cfg = s.cfg := rfl
@[simp] theorem State.setArg_tap (v : Nibble) : (s.setArg v).tap = s.tap := rfl
@[simp] theorem State.setArg_ir (v : Nibble) : (s.setArg v).ir = s.ir := rfl
@[simp] theorem State.setArg_irs (v : Nibble) : (s.setArg v).irs = s.irs := rfl
@[simp] theorem State.setArg_dri (v : Nibble) : (s.setArg v).dri = s.dri := rfl
@[simp] theorem State.setArg_dro (v : Nibble) : (s.setArg v).dro = s.dro := rfl
@[simp] theorem State.setArg_idcode (v : Nibble) : (s.setArg v).idcode = s.idcode := rfl
@[simp] theorem State.setArg_idTgl (v : Nibble) : (s.setArg v).idTgl = s.idTgl := rfl
@[simp] theorem State.setArg_pdiW (v : Nibble) : (s.setArg v).pdiW = s.pdiW := rfl
@[simp] theorem State.setArg_pdiR (v : Nibble) : (s.setArg v).pdiR = s.pdiR := rfl
@[simp] theorem State.setArg_pdiTgl (v : Nibble) : (s.setArg v).pdiTgl = s.pdiTgl := rfl
@[simp] theorem State.setArg_idSeen (v : Nibble) : (s.setArg v).idSeen = s.idSeen := rfl
@[simp] theorem State.setArg_pdiSeen (v : Nibble) : (s.setArg v).pdiSeen = s.pdiSeen := rfl
@[simp] theorem State.setArg_opcode (v : Nibble) : (s.setArg v).opcode = s.opcode := rfl
@[simp] theorem State.setArg_fs (v : Nibble) : (s.setArg v).fs = s.fs := rfl
@[simp] theorem State.setArg_cs (v : Nibble) : (s.setArg v).cs = s.cs := rfl
@[simp] theorem State.setArg_arg (v : Nibble) : (s.setArg v).arg = v := rfl
@[simp] theorem State.setArg_data (v : Nibble) : (s.setArg v).data = s.data := rfl
@[simp] theorem State.setArg_upd (v : Nibble) : (s.setArg v).upd = s.upd := rfl
@[simp] theorem State.setArg_wcnt (v : Nibble) : (s.setArg v).wcnt = s.wcnt := rfl
@[simp] theorem State.setArg_rcnt (v : Nibble) : (s.setArg v).rcnt = s.rcnt := rfl
@[simp] theorem State.setArg_rep (v : Nibble) : (s.setArg v).rep = s.rep := rfl
@[simp] theorem State.setArg_acc (v : Nibble) : (s.setArg v).acc = s.acc := rfl
@[simp] theorem State.setArg_out (v : Nibble) : (s.setArg v).out = s.out := rfl
@[simp] theorem State.setArg_errCount (v : Nibble) : (s.setArg v).errCount = s.errCount := rfl
@[simp] theorem State.setArg_refused (v : Nibble) : (s.setArg v).refused = s.refused := rfl
@[simp] theorem State.setArg_schedule (v : Nibble) : (s.setArg v).schedule = s.schedule := rfl

@[simp] theorem State.setData_cfg (v : Byte) : (s.setData v).cfg = s.cfg := rfl
@[simp] theorem State.setData_tap (v : Byte) : (s.setData v).tap = s.tap := rfl
@[simp] theorem State.setData_ir (v : Byte) : (s.setData v).ir = s.ir := rfl
@[simp] theorem State.setData_irs (v : Byte) : (s.setData v).irs = s.irs := rfl
@[simp] theorem State.setData_dri (v : Byte) : (s.setData v).dri = s.dri := rfl
@[simp] theorem State.setData_dro (v : Byte) : (s.setData v).dro = s.dro := rfl
@[simp] theorem State.setData_idcode (v : Byte) : (s.setData v).idcode = s.idcode := rfl
@[simp] theorem State.setData_idTgl (v : Byte) : (s.setData v).idTgl = s.idTgl := rfl
@[simp] theorem State.setData_pdiW (v : Byte) : (s.setData v).pdiW = s.pdiW := rfl
@[simp] theorem State.setData_pdiR (v : Byte) : (s.setData v).pdiR = s.pdiR := rfl
@[simp] theorem State.setData_pdiTgl (v : Byte) : (s.setData v).pdiTgl = s.pdiTgl := rfl
@[simp] theorem State.setData_idSeen (v : Byte) : (s.setData v).idSeen = s.idSeen := rfl
@[simp] theorem State.setData_pdiSeen (v : Byte) : (s.setData v).pdiSeen = s.pdiSeen := rfl
@[simp] theorem State.setData_opcode (v : Byte) : (s.setData v).opcode = s.opcode := rfl
@[simp] theorem State.setData_fs (v : Byte) : (s.setData v).fs = s.fs := rfl
@[simp] theorem State.setData_cs (v : Byte) : (s.setData v).cs = s.cs := rfl
@[simp] theorem State.setData_arg (v : Byte) : (s.setData v).arg = s.arg := rfl
@[simp] theorem State.setData_data (v : Byte) : (s.setData v).data = v := rfl
@[simp] theorem State.setData_upd (v : Byte) : (s.setData v).upd = s.upd := rfl
@[simp] theorem State.setData_wcnt (v : Byte) : (s.setData v).wcnt = s.wcnt := rfl
@[simp] theorem State.setData_rcnt (v : Byte) : (s.setData v).rcnt = s.rcnt := rfl
@[simp] theorem State.setData_rep (v : Byte) : (s.setData v).rep = s.rep := rfl
@[simp] theorem State.setData_acc (v : Byte) : (s.setData v).acc = s.acc := rfl
@[simp] theorem State.setData_out (v : Byte) : (s.setData v).out = s.out := rfl
@[simp] theorem State.setData_errCount (v : Byte) : (s.setData v).errCount = s.errCount := rfl
@[simp] theorem State.setData_refused (v : Byte) : (s.setData v).refused = s.refused := rfl
@[simp] theorem State.setData_schedule (v : Byte) : (s.setData v).schedule = s.schedule := rfl

@[simp] theorem State.setUpd_cfg (v : Bool) : (s.setUpd v).cfg = s.cfg := rfl
@[simp] theorem State.setUpd_tap (v : Bool) : (s.setUpd v).tap = s.tap := rfl
@[simp] theorem State.setUpd_ir (v : Bool) : (s.setUpd v).ir = s.ir := rfl
@[simp] theorem State.setUpd_irs (v : Bool) : (s.setUpd v).irs = s.irs := rfl
@[simp] theorem State.setUpd_dri (v : Bool) : (s.setUpd v).dri = s.dri := rfl
@[simp] theorem State.setUpd_dro (v : Bool) : (s.setUpd v).dro = s.dro := rfl
@[simp] theorem State.setUpd_idcode (v : Bool) : (s.setUpd v).idcode = s.idcode := rfl
@[simp] theorem State.setUpd_idTgl (v : Bool) : (s.setUpd v).idTgl = s.idTgl := rfl
@[simp] theorem State.setUpd_pdiW (v : Bool) : (s.setUpd v).pdiW = s.pdiW := rfl
@[simp] theorem State.setUpd_pdiR (v : Bool) : (s.setUpd v).pdiR = s.pdiR := rfl
@[simp] theorem State.setUpd_pdiTgl (v : Bool) : (s.setUpd v).pdiTgl = s.pdiTgl := rfl
@[simp] theorem State.setUpd_idSeen (v : Bool) : (s.setUpd v).idSeen = s.idSeen := rfl
@[simp] theorem State.setUpd_pdiSeen (v : Bool) : (s.setUpd v).pdiSeen = s.pdiSeen := rfl
@[simp] theorem State.setUpd_opcode (v : Bool) : (s.setUpd v).opcode = s.opcode := rfl
@[simp] theorem State.setUpd_fs (v : Bool) : (s.setUpd v).fs = s.fs := rfl
@[simp] theorem State.setUpd_cs (v : Bool) : (s.setUpd v).cs = s.cs := rfl
@[simp] theorem State.setUpd_arg (v : Bool) : (s.setUpd v).arg = s.arg := rfl
@[simp] theorem State.setUpd_data (v : Bool) : (s.setUpd v).data = s.data := rfl
@[simp] theorem State.setUpd_upd (v : Bool) : (s.setUpd v).upd = v := rfl
@[simp] theorem State.setUpd_wcnt (v : Bool) : (s.setUpd v).wcnt = s.wcnt := rfl
@[simp] theorem State.setUpd_rcnt (v : Bool) : (s.setUpd v).rcnt = s.rcnt := rfl
@[simp] theorem State.setUpd_rep (v : Bool) : (s.setUpd v).rep = s.rep := rfl
@[simp] theorem State.setUpd_acc (v : Bool) : (s.setUpd v).acc = s.acc := rfl
@[simp] theorem State.setUpd_out (v : Bool) : (s.setUpd v).out = s.out := rfl
@[simp] theorem State.setUpd_errCount (v : Bool) : (s.setUpd v).errCount = s.errCount := rfl
@[simp] theorem State.setUpd_refused (v : Bool) : (s.setUpd v).refused = s.refused := rfl
@[simp] theorem State.setUpd_schedule (v : Bool) : (s.setUpd v).schedule = s.schedule := rfl

@[simp] theorem State.setCounts_cfg (w r : Nat) : (s.setCounts w r).cfg = s.cfg := rfl
@[simp] theorem State.setCounts_tap (w r : Nat) : (s.setCounts w r).tap = s.tap := rfl
@[simp] theorem State.setCounts_ir (w r : Nat) : (s.setCounts w r).ir = s.ir := rfl
@[simp] theorem State.setCounts_irs (w r : Nat) : (s.setCounts w r).irs = s.irs := rfl
@[simp] theorem State.setCounts_dri (w r : Nat) : (s.setCounts w r).dri = s.dri := rfl
@[simp] theorem State.setCounts_dro (w r : Nat) : (s.setCounts w r).dro = s.dro := rfl
@[simp] theorem State.setCounts_idcode (w r : Nat) : (s.setCounts w r).idcode = s.idcode := rfl
@[simp] theorem State.setCounts_idTgl (w r : Nat) : (s.setCounts w r).idTgl = s.idTgl := rfl
@[simp] theorem State.setCounts_pdiW (w r : Nat) : (s.setCounts w r).pdiW = s.pdiW := rfl
@[simp] theorem State.setCounts_pdiR (w r : Nat) : (s.setCounts w r).pdiR = s.pdiR := rfl
@[simp] theorem State.setCounts_pdiTgl (w r : Nat) : (s.setCounts w r).pdiTgl = s.pdiTgl := rfl
@[simp] theorem State.setCounts_idSeen (w r : Nat) : (s.setCounts w r).idSeen = s.idSeen := rfl
@[simp] theorem State.setCounts_pdiSeen (w r : Nat) : (s.setCounts w r).pdiSeen = s.pdiSeen := rfl
@[simp] theorem State.setCounts_opcode (w r : Nat) : (s.setCounts w r).opcode = s.opcode := rfl
@[simp] theorem State.setCounts_fs (w r : Nat) : (s.setCounts w r).fs = s.fs := rfl
@[simp] theorem State.setCounts_cs (w r : Nat) : (s.setCounts w r).cs = s.cs := rfl
@[simp] theorem State.setCounts_arg (w r : Nat) : (s.setCounts w r).arg = s.arg := rfl
@[simp] theorem State.setCounts_data (w r : Nat) : (s.setCounts w r).data = s.data := rfl
@[simp] theorem State.setCounts_upd (w r : Nat) : (s.setCounts w r).upd = s.upd := rfl
@[simp] theorem State.setCounts_wcnt (w r : Nat) : (s.setCounts w r).wcnt = w := rfl
@[simp] theorem State.setCounts_rcnt (w r : Nat) : (s.setCounts w r).rcnt = r := rfl
@[simp] theorem State.setCounts_rep (w r : Nat) : (s.setCounts w r).rep = s.rep := rfl
@[simp] theorem State.setCounts_acc (w r : Nat) : (s.setCounts w r).acc = s.acc := rfl
@[simp] theorem State.setCounts_out (w r : Nat) : (s.setCounts w r).out = s.out := rfl
@[simp] theorem State.setCounts_errCount (w r : Nat) : (s.setCounts w r).errCount = s.errCount := rfl
@[simp] theorem State.setCounts_refused (w r : Nat) : (s.setCounts w r).refused = s.refused := rfl
@[simp] theorem State.setCounts_schedule (w r : Nat) : (s.setCounts w r).schedule = s.schedule := rfl

@[simp] theorem State.setRep_cfg (v : Word) : (s.setRep v).cfg = s.cfg := rfl
@[simp] theorem State.setRep_tap (v : Word) : (s.setRep v).tap = s.tap := rfl
@[simp] theorem State.setRep_ir (v : Word) : (s.setRep v).ir = s.ir := rfl
@[simp] theorem State.setRep_irs (v : Word) : (s.setRep v).irs = s.irs := rfl
@[simp] theorem State.setRep_dri (v : Word) : (s.setRep v).dri = s.dri := rfl
@[simp] theorem State.setRep_dro (v : Word) : (s.setRep v).dro = s.dro := rfl
@[simp] theorem State.setRep_idcode (v : Word) : (s.setRep v).idcode = s.idcode := rfl
@[simp] theorem State.setRep_idTgl (v : Word) : (s.setRep v).idTgl = s.idTgl := rfl
@[simp] theorem State.setRep_pdiW (v : Word) : (s.setRep v).pdiW = s.pdiW := rfl
@[simp] theorem State.setRep_pdiR (v : Word) : (s.setRep v).pdiR = s.pdiR := rfl
@[simp] theorem State.setRep_pdiTgl (v : Word) : (s.setRep v).pdiTgl = s.pdiTgl := rfl
@[simp] theorem State.setRep_idSeen (v : Word) : (s.setRep v).idSeen = s.idSeen := rfl
@[simp] theorem State.setRep_pdiSeen (v : Word) : (s.setRep v).pdiSeen = s.pdiSeen := rfl
@[simp] theorem State.setRep_opcode (v : Word) : (s.setRep v).opcode = s.opcode := rfl
@[simp] theorem State.setRep_fs (v : Word) : (s.setRep v).fs = s.fs := rfl
@[simp] theorem State.setRep_cs (v : Word) : (s.setRep v).cs = s.cs := rfl
@[simp] theorem State.setRep_arg (v : Word) : (s.setRep v).arg = s.arg := rfl
@[simp] theorem State.setRep_data (v : Word) : (s.setRep v).data = s.data := rfl
@[simp] theorem State.setRep_upd (v : Word) : (s.setRep v).upd = s.upd := rfl
@[simp] theorem State.setRep_wcnt (v : Word) : (s.setRep v).wcnt = s.wcnt := rfl
@[simp] theorem State.setRep_rcnt (v : Word) : (s.setRep v).rcnt = s.rcnt := rfl
@[simp] theorem State.setRep_rep (v : Word) : (s.setRep v).rep = v := rfl
@[simp] theorem State.setRep_acc (v : Word) : (s.setRep v).acc = s.acc := rfl
@[simp] theorem State.setRep_out (v : Word) : (s.setRep v).out = s.out := rfl
@[simp] theorem State.setRep_errCount (v : Word) : (s.setRep v).errCount = s.errCount := rfl
@[simp] theorem State.setRep_refused (v : Word) : (s.setRep v).refused = s.refused := rfl
@[simp] theorem State.setRep_schedule (v : Word) : (s.setRep v).schedule = s.schedule := rfl

@[simp] theorem State.setAcc_cfg (v : Word) : (s.setAcc v).cfg = s.cfg := rfl
@[simp] theorem State.setAcc_tap (v : Word) : (s.setAcc v).tap = s.tap := rfl
@[simp] theorem State.setAcc_ir (v : Word) : (s.setAcc v).ir = s.ir := rfl
@[simp] theorem State.setAcc_irs (v : Word) : (s.setAcc v).irs = s.irs := rfl
@[simp] theorem State.setAcc_dri (v : Word) : (s.setAcc v).dri = s.dri := rfl
@[simp] theorem State.setAcc_dro (v : Word) : (s.setAcc v).dro = s.dro := rfl
@[simp] theorem State.setAcc_idcode (v : Word) : (s.setAcc v).idcode = s.idcode := rfl
@[simp] theorem State.setAcc_idTgl (v : Word) : (s.setAcc v).idTgl = s.idTgl := rfl
@[simp] theorem State.setAcc_pdiW (v : Word) : (s.setAcc v).pdiW = s.pdiW := rfl
@[simp] theorem State.setAcc_pdiR (v : Word) : (s.setAcc v).pdiR = s.pdiR := rfl
@[simp] theorem State.setAcc_pdiTgl (v : Word) : (s.setAcc v).pdiTgl = s.pdiTgl := rfl
@[simp] theorem State.setAcc_idSeen (v : Word) : (s.setAcc v).idSeen = s.idSeen := rfl
@[simp] theorem State.setAcc_pdiSeen (v : Word) : (s.setAcc v).pdiSeen = s.pdiSeen := rfl
@[simp] theorem State.setAcc_opcode (v : Word) : (s.setAcc v).opcode = s.opcode := rfl
@[simp] theorem State.setAcc_fs (v : Word) : (s.setAcc v).fs = s.fs := rfl
@[simp] theorem State.setAcc_cs (v : Word) : (s.setAcc v).cs = s.cs := rfl
@[simp] theorem State.setAcc_arg (v : Word) : (s.setAcc v).arg = s.arg := rfl
@[simp] theorem State.setAcc_data (v : Word) : (s.setAcc v).data = s.data := rfl
@[simp] theorem State.setAcc_upd (v : Word) : (s.setAcc v).upd = s.upd := rfl
@[simp] theorem State.setAcc_wcnt (v : Word) : (s.setAcc v).wcnt = s.wcnt := rfl
@[simp] theorem State.setAcc_rcnt (v : Word) : (s.setAcc v).rcnt = s.rcnt := rfl
@[simp] theorem State.setAcc_rep (v : Word) : (s.setAcc v).rep = s.rep := rfl
@[simp] theorem State.setAcc_acc (v : Word) : (s.setAcc v).acc = v := rfl
@[simp] theorem State.setAcc_out (v : Word) : (s.setAcc v).out = s.out := rfl
@[simp] theorem State.setAcc_errCount (v : Word) : (s.setAcc v).errCount = s.errCount := rfl
@[simp] theorem State.setAcc_refused (v : Word) : (s.setAcc v).refused = s.refused := rfl
@[simp] theorem State.setAcc_schedule (v : Word) : (s.setAcc v).schedule = s.schedule := rfl

@[simp] theorem State.emit_cfg (bytes : List Byte) : (s.emit bytes).cfg = s.cfg := rfl
@[simp] theorem State.emit_tap (bytes : List Byte) : (s.emit bytes).tap = s.tap := rfl
@[simp] theorem State.emit_ir (bytes : List Byte) : (s.emit bytes).ir = s.ir := rfl
@[simp] theorem State.emit_irs (bytes : List Byte) : (s.emit bytes).irs = s.irs := rfl
@[simp] theorem State.emit_dri (bytes : List Byte) : (s.emit bytes).dri = s.dri := rfl
@[simp] theorem State.emit_dro (bytes : List Byte) : (s.emit bytes).dro = s.dro := rfl
@[simp] theorem State.emit_idcode (bytes : List Byte) : (s.emit bytes).idcode = s.idcode := rfl
@[simp] theorem State.emit_idTgl (bytes : List Byte) : (s.emit bytes).idTgl = s.idTgl := rfl
@[simp] theorem State.emit_pdiW (bytes : List Byte) : (s.emit bytes).pdiW = s.pdiW := rfl
@[simp] theorem State.emit_pdiR (bytes : List Byte) : (s.emit bytes).pdiR = s.pdiR := rfl
@[simp] theorem State.emit_pdiTgl (bytes : List Byte) : (s.emit bytes).pdiTgl = s.pdiTgl := rfl
@[simp] theorem State.emit_idSeen (bytes : List Byte) : (s.emit bytes).idSeen = s.idSeen := rfl
@[simp] theorem State.emit_pdiSeen (bytes : List Byte) : (s.emit bytes).pdiSeen = s.pdiSeen := rfl
@[simp] theorem State.emit_opcode (bytes : List Byte) : (s.emit bytes).opcode = s.opcode := rfl
@[simp] theorem State.emit_fs (bytes : List Byte) : (s.emit bytes).fs = s.fs := rfl
@[simp] theorem State.emit_cs (bytes : List Byte) : (s.emit bytes).cs = s.cs := rfl
@[simp] theorem State.emit_arg (bytes : List Byte) : (s.emit bytes).arg = s.arg := rfl
@[simp] theorem State.emit_data (bytes : List Byte) : (s.emit bytes).data = s.data := rfl
@[simp] theorem State.emit_upd (bytes : List Byte) : (s.emit bytes).upd = s.upd := rfl
@[simp] theorem State.emit_wcnt (bytes : List Byte) : (s.emit bytes).wcnt = s.wcnt := rfl
@[simp] theorem State.emit_rcnt (bytes : List Byte) : (s.emit bytes).rcnt = s.rcnt := rfl
@[simp] theorem State.emit_rep (bytes : List Byte) : (s.emit bytes).rep = s.rep := rfl
@[simp] theorem State.emit_acc (bytes : List Byte) : (s.emit bytes).acc = s.acc := rfl
@[simp] theorem State.emit_out (bytes : List Byte) : (s.emit bytes).out = s.out ++ bytes := rfl
@[simp] theorem State.emit_errCount (bytes : List Byte) : (s.emit bytes).errCount = s.errCount := rfl
@[simp] theorem State.emit_refused (bytes : List Byte) : (s.emit bytes).refused = s.refused := rfl
@[simp] theorem State.emit_schedule (bytes : List Byte) : (s.emit bytes).schedule = s.schedule := rfl

@[simp] theorem State.pulseParityErr_cfg : (s.pulseParityErr).cfg = s.cfg := rfl
@[simp] theorem State.pulseParityErr_tap : (s.pulseParityErr).tap = s.tap := rfl
@[simp] theorem State.pulseParityErr_ir : (s.pulseParityErr).ir = s.ir := rfl
@[simp] theorem State.pulseParityErr_irs : (s.pulseParityErr).irs = s.irs := rfl
@[simp] theorem State.pulseParityErr_dri : (s.pulseParityErr).dri = s.dri := rfl
@[simp] theorem State.pulseParityErr_dro : (s.pulseParityErr).dro = s.dro := rfl
@[simp] theorem State.pulseParityErr_idcode : (s.pulseParityErr).idcode = s.idcode := rfl
@[simp] theorem State.pulseParityErr_idTgl : (s.pulseParityErr).idTgl = s.idTgl := rfl
@[simp] theorem State.pulseParityErr_pdiW : (s.pulseParityErr).pdiW = s.pdiW := rfl
@[simp] theorem State.pulseParityErr_pdiR : (s.pulseParityErr).pdiR = s.pdiR := rfl
@[simp] theorem State.pulseParityErr_pdiTgl : (s.pulseParityErr).pdiTgl = s.pdiTgl := rfl
@[simp] theorem State.pulseParityErr_idSeen : (s.pulseParityErr).idSeen = s.idSeen := rfl
@[simp] theorem State.pulseParityErr_pdiSeen : (s.pulseParityErr).pdiSeen = s.pdiSeen := rfl
@[simp] theorem State.pulseParityErr_opcode : (s.pulseParityErr).opcode = s.opcode := rfl
@[simp] theorem State.pulseParityErr_fs : (s.pulseParityErr).fs = s.fs := rfl
@[simp] theorem State.pulseParityErr_cs : (s.pulseParityErr).cs = s.cs := rfl
@[simp] theorem State.pulseParityErr_arg : (s.pulseParityErr).arg = s.arg := rfl
@[simp] theorem State.pulseParityErr_data : (s.pulseParityErr).data = s.data := rfl
@[simp] theorem State.pulseParityErr_upd : (s.pulseParityErr).upd = s.upd := rfl
@[simp] theorem State.pulseParityErr_wcnt : (s.pulseParityErr).wcnt = s.wcnt := rfl
@[simp] theorem State.pulseParityErr_rcnt : (s.pulseParityErr).rcnt = s.rcnt := rfl
@[simp] theorem State.pulseParityErr_rep : (s.pulseParityErr).rep = s.rep := rfl
@[simp] theorem State.pulseParityErr_acc : (s.pulseParityErr).acc = s.acc := rfl
@[simp] theorem State.pulseParityErr_out : (s.pulseParityErr).out = s.out := rfl
@[simp] theorem State.pulseParityErr_errCount : (s.pulseParityErr).errCount = s.errCount + 1 := rfl
@[simp] theorem State.pulseParityErr_refused : (s.pulseParityErr).refused = s.refused := rfl
@[simp] theorem State.pulseParityErr_schedule : (s.pulseParityErr).schedule = s.schedule := rfl

@[simp] theorem State.setRefused_cfg : (s.setRefused).cfg = s.cfg := rfl
@[simp] theorem State.setRefused_tap : (s.setRefused).tap = s.tap := rfl
@[simp] theorem State.setRefused_ir : (s.setRefused).ir = s.ir := rfl
@[simp] theorem State.setRefused_irs : (s.setRefused).irs = s.irs := rfl
@[simp] theorem State.setRefused_dri : (s.setRefused).dri = s.dri := rfl
@[simp] theorem State.setRefused_dro : (s.setRefused).dro = s.dro := rfl
@[simp] theorem State.setRefused_idcode : (s.setRefused).idcode = s.idcode := rfl
@[simp] theorem State.setRefused_idTgl : (s.setRefused).idTgl = s.idTgl := rfl
@[simp] theorem State.setRefused_pdiW : (s.setRefused).pdiW = s.pdiW := rfl
@[simp] theorem State.setRefused_pdiR : (s.setRefused).pdiR = s.pdiR := rfl
@[simp] theorem State.setRefused_pdiTgl : (s.setRefused).pdiTgl = s.pdiTgl := rfl
@[simp] theorem State.setRefused_idSeen : (s.setRefused).idSeen = s.idSeen := rfl
@[simp] theorem State.setRefused_pdiSeen : (s.setRefused).pdiSeen = s.pdiSeen := rfl
@[simp] theorem State.setRefused_opcode : (s.setRefused).opcode = s.opcode := rfl
@[simp] theorem State.setRefused_fs : (s.setRefused).fs = s.fs := rfl
@[simp] theorem State.setRefused_cs : (s.setRefused).cs = s.cs := rfl
@[simp] theorem State.setRefused_arg : (s.setRefused).arg = s.arg := rfl
@[simp] theorem State.setRefused_data : (s.setRefused).data = s.data := rfl
@[simp] theorem State.setRefused_upd : (s.setRefused).upd = s.upd := rfl
@[simp] theorem State.setRefused_wcnt : (s.setRefused).wcnt = s.wcnt := rfl
@[simp] theorem State.setRefused_rcnt : (s.setRefused).rcnt = s.rcnt := rfl
@[simp] theorem State.setRefused_rep : (s.setRefused).rep = s.rep := rfl
@[simp] theorem State.setRefused_acc : (s.setRefused).acc = s.acc := rfl
@[simp] theorem State.setRefused_out : (s.setRefused).out = s.out := rfl
@[simp] theorem State.setRefused_errCount : (s.setRefused).errCount = s.errCount := rfl
@[simp] theorem State.setRefused_refused : (s.setRefused).refused = true := rfl
@[simp] theorem State.setRefused_schedule : (s.setRefused).schedule = s.schedule := rfl

@[simp] theorem State.setSchedule_cfg (ts : List Turn) : (s.setSchedule ts).cfg = s.cfg := rfl
@[simp] theorem State.setSchedule_tap (ts : List Turn) : (s.setSchedule ts).tap = s.tap := rfl
@[simp] theorem State.setSchedule_ir (ts : List Turn) : (s.setSchedule ts).ir = s.ir := rfl
@[simp] theorem State.setSchedule_irs (ts : List Turn) : (s.setSchedule ts).irs = s.irs := rfl
@[simp] theorem State.setSchedule_dri (ts : List Turn) : (s.setSchedule ts).dri = s.dri := rfl
@[simp] theorem State.setSchedule_dro (ts : List Turn) : (s.setSchedule ts).dro = s.dro := rfl
@[simp] theorem State.setSchedule_idcode (ts : List Turn) : (s.setSchedule ts).idcode = s.idcode := rfl
@[simp] theorem State.setSchedule_idTgl (ts : List Turn) : (s.setSchedule ts).idTgl = s.idTgl := rfl
@[simp] theorem State.setSchedule_pdiW (ts : List Turn) : (s.setSchedule ts).pdiW = s.pdiW := rfl
@[simp] theorem State.setSchedule_pdiR (ts : List Turn) : (s.setSchedule ts).pdiR = s.pdiR := rfl
@[simp] theorem State.setSchedule_pdiTgl (ts : List Turn) : (s.setSchedule ts).pdiTgl = s.pdiTgl := rfl
@[simp] theorem State.setSchedule_idSeen (ts : List Turn) : (s.setSchedule ts).idSeen = s.idSeen := rfl
@[simp] theorem State.setSchedule_pdiSeen (ts : List Turn) : (s.setSchedule ts).pdiSeen = s.pdiSeen := rfl
@[simp] theorem State.setSchedule_opcode (ts : List Turn) : (s.setSchedule ts).opcode = s.opcode := rfl
@[simp] theorem State.setSchedule_fs (ts : List Turn) : (s.setSchedule ts).fs = s.fs := rfl
@[simp] theorem State.setSchedule_cs (ts : List Turn) : (s.setSchedule ts).cs = s.cs := rfl
@[simp] theorem State.setSchedule_arg (ts : List Turn) : (s.setSchedule ts).arg = s.arg := rfl
@[simp] theorem State.setSchedule_data (ts : List Turn) : (s.setSchedule ts).data = s.data := rfl
@[simp] theorem State.setSchedule_upd (ts : List Turn) : (s.setSchedule ts).upd = s.upd := rfl
@[simp] theorem State.setSchedule_wcnt (ts : List Turn) : (s.setSchedule ts).wcnt = s.wcnt := rfl
@[simp] theorem State.setSchedule_rcnt (ts : List Turn) : (s.setSchedule ts).rcnt = s.rcnt := rfl
@[simp] theorem State.setSchedule_rep (ts : List Turn) : (s.setSchedule ts).rep = s.rep := rfl
@[simp] theorem State.setSchedule_acc (ts : List Turn) : (s.setSchedule ts).acc = s.acc := rfl
@[simp] theorem State.setSchedule_out (ts : List Turn) : (s.setSchedule ts).out = s.out := rfl
@[simp] theorem State.setSchedule_errCount (ts : List Turn) : (s.setSchedule ts).errCount = s.errCount := rfl
@[simp] theorem State.setSchedule_refused (ts : List Turn) : (s.setSchedule ts).refused = s.refused := rfl
@[simp] theorem State.setSchedule_schedule (ts : List Turn) : (s.setSchedule ts).schedule = ts := rfl

end Sys2Proof.Machine
end

