-- ==== Sys2Proof/Laws/Ops.lean ====
section
/-!
SUPPORT. For each shared operation, once, everything it can do: an equation where it has one outcome, a case
lemma where it has several.
-/

namespace Sys2Proof.Machine

variable (s : State)

theorem advanceTap_eq (t : TapState) (tms : Bool) : advanceTap t tms s = { s with tap := nextTap s.cfg t tms } := rfl

theorem preloadIr_eq : preloadIr s = { s with ir := s.cfg.irIdcode } := rfl

theorem shiftData_eq (tdi tdo : Bool) :
    shiftData tdi tdo s = { s with dri := shiftIntoData tdi s.dri, dro := shiftIntoData tdo s.dro } := rfl

theorem shiftIr_eq (tdi : Bool) : shiftIr tdi s = { s with irs := shiftIntoIr tdi s.irs } := rfl

theorem updateIr_eq : updateIr s = { s with ir := s.irs } := rfl

theorem commitIdcode_eq : commitIdcode s = { s with idcode := idcodeSource s, idTgl := !s.idTgl } := rfl

theorem commitPdi_eq :
    commitPdi s = { s with pdiW := frameOfDataReg s.dri, pdiR := frameOfDataReg s.dro, pdiTgl := !s.pdiTgl } := rfl

/-- The one thing UPDATE-DR does, by the value of `ir`. -/
theorem updateData_cases :
    (s.ir = s.cfg.irIdcode ∧ updateData s = commitIdcode s) ∨
    (s.ir ≠ s.cfg.irIdcode ∧ s.ir = s.cfg.irPdicom ∧ updateData s = commitPdi s) ∨
    (s.ir ≠ s.cfg.irIdcode ∧ s.ir ≠ s.cfg.irPdicom ∧ updateData s = s) := by
  by_cases hi : s.ir = s.cfg.irIdcode
  · exact .inl ⟨hi, if_pos hi⟩
  · by_cases hp : s.ir = s.cfg.irPdicom
    · exact .inr (.inl ⟨hi, hp, (if_neg hi).trans (if_pos hp)⟩)
    · exact .inr (.inr ⟨hi, hp, (if_neg hi).trans (if_neg hp)⟩)

theorem emitIdcode_eq (v : Word) : emitIdcode v s = { s with out := s.out ++ idcodeFrame v } := rfl

theorem emitPdi_eq (b : Byte) : emitPdi b s = { s with out := s.out ++ pdiEventFrame b } := rfl

theorem parityError_eq :
    returnToIdle (parityError s) =
      { s with fs := .idle, errCount := s.errCount + 1, opcode := opIdle, wcnt := 0, rcnt := 0, cs := .idle } := by
  apply State.ext <;> simp [returnToIdle, parityError]

theorem refuse_eq (reason : RefuseReason) : refuse reason s = { s with refused := true } := rfl

theorem countsDone_iff : s.countsDone = true ↔ s.wcnt = 0 ∧ s.rcnt = 0 := by
  simp [State.countsDone]

/-- SEND-DATA and the return to IDLE: a command byte, the end of a transaction, or a byte inside one. -/
theorem finishFrame_cases :
    (s.upd = true ∧ finishFrame s = { s with fs := .idle, upd := false }) ∨
    (s.upd = false ∧ s.wcnt = 0 ∧ s.rcnt = 0 ∧
      finishFrame s = { s with fs := .idle, opcode := opIdle, out := s.out ++ pdiEventFrame s.data }) ∨
    (s.upd = false ∧ ¬(s.wcnt = 0 ∧ s.rcnt = 0) ∧
      finishFrame s = { s with fs := .idle, out := s.out ++ pdiEventFrame s.data }) := by
  cases hu : s.upd
  · by_cases hd : s.countsDone = true
    · refine .inr (.inl ⟨rfl, ((countsDone_iff s).1 hd).1, ((countsDone_iff s).1 hd).2, ?_⟩)
      simp [finishFrame, sendData, hu, hd, returnToIdle, byteReady, emitPdi, State.emit, State.setFs, State.setOpcode]
    · refine .inr (.inr ⟨rfl, fun h => hd ((countsDone_iff s).2 h), ?_⟩)
      simp [finishFrame, sendData, hu, hd, returnToIdle, byteReady, emitPdi, State.emit, State.setFs]
  · refine .inl ⟨rfl, ?_⟩
    simp [finishFrame, sendData, hu, returnToIdle, State.setFs, State.setUpd]

theorem finishFrame_of_command (h : s.upd = true) : finishFrame s = { s with fs := .idle, upd := false } := by
  simp [finishFrame, sendData, h, returnToIdle, State.setFs, State.setUpd]

theorem latchCommand_eq (b : Byte) :
    latchCommand b s = { s with fs := .handleWrite, data := b, opcode := opcodeField b, upd := true } := rfl

theorem beginCount_eq (aa bb : SizeField) : beginCount aa bb s = { s with cs := .decode, arg := argOf aa bb } := rfl

/-- A command step is its count operation between the latching of the byte and the clearing of `upd`. -/
theorem commandStep_eq (nibble : Nibble) (aa bb : SizeField) (count : State → State)
    (keeps : ∀ t, (count t).upd = t.upd) :
    commandStep nibble aa bb count s =
      { count { s with
          fs := .handleWrite, data := commandByte nibble aa bb, opcode := opcodeField (commandByte nibble aa bb),
          upd := true, cs := .decode, arg := argOf aa bb } with
        fs := .idle, upd := false } := by
  have latched : beginCount aa bb (latchCommand (commandByte nibble aa bb) (s.setFs .checkParity)) =
      { s with
        fs := .handleWrite, data := commandByte nibble aa bb, opcode := opcodeField (commandByte nibble aa bb),
        upd := true, cs := .decode, arg := argOf aa bb } := by
    apply State.ext <;> simp [beginCount, latchCommand]
  rw [commandStep, latched, finishFrame_of_command _ (keeps _)]

@[simp] theorem opcodeField_commandByte (nibble : Nibble) (aa bb : SizeField) :
    opcodeField (commandByte nibble aa bb) = nibble := by
  revert nibble aa bb; decide

@[simp] theorem sizeFieldA_commandByte (nibble : Nibble) (aa bb : SizeField) :
    sizeFieldA (commandByte nibble aa bb) = aa := by
  revert nibble aa bb; decide

@[simp] theorem sizeFieldB_commandByte (nibble : Nibble) (aa bb : SizeField) :
    sizeFieldB (commandByte nibble aa bb) = bb := by
  revert nibble aa bb; decide

/-- Every command byte is made of its three fields. -/
theorem commandByte_fields (b : Byte) : commandByte (opcodeField b) (sizeFieldA b) (sizeFieldB b) = b := by
  revert b; decide

theorem frameOf_fields (f : Frame) : frameOf (f.getLsbD 8) (frameByte f) = f := by
  revert f; decide

/-- The instruction of an opcode nibble does what the count machine's dispatch does. -/
theorem exec_commandOf (nibble : Nibble) (aa bb : SizeField) :
    exec (commandOf nibble aa bb) s = .next (commandStep nibble aa bb (dispatchCount nibble aa bb) s) := by
  rcases nibble with ⟨⟨k, hk⟩⟩
  interval_cases k <;> rfl

theorem hostToTarget_iff : hostToTarget s = true ↔ s.opcode = opIdle ∨ 0 < s.wcnt := by
  simp [hostToTarget]

/-- CAPTURE-REPEAT either waits for more payload or assembles the repeat count. -/
theorem repeatCapture_cases (b : Byte) :
    (s.wcnt ≠ 0 ∧ repeatCapture b s = { s with acc := s.acc.extractLsb' 0 24 ++ b }) ∨
    (s.wcnt = 0 ∧ repeatCapture b s = { s with
      acc := s.acc.extractLsb' 0 24 ++ b, cs := .idle,
      rep := BitVec.ofNat 32 ((s.acc.extractLsb' 0 24 ++ b).toNat % 2 ^ (8 * repeatWidth s.arg)) }) := by
  by_cases h : s.wcnt = 0
  · refine .inr ⟨h, ?_⟩
    rw [repeatCapture, if_pos h]
    apply State.ext <;> simp [updateRepeat]
  · refine .inl ⟨h, ?_⟩
    rw [repeatCapture, if_neg h]
    rfl

/-- HANDLE-WRITE on a data byte, with or without a repeat capture. -/
theorem handleWriteData_cases (b : Byte) :
    (s.cs ≠ .captureRepeat ∧
      handleWriteData b s = { s with fs := .handleWrite, data := b, wcnt := s.wcnt - 1 }) ∨
    (s.cs = .captureRepeat ∧
      handleWriteData b s = repeatCapture b { s with fs := .handleWrite, data := b, wcnt := s.wcnt - 1 }) := by
  have latched : ((s.setFs .handleWrite).setData b).setCounts (s.wcnt - 1) s.rcnt =
      { s with fs := .handleWrite, data := b, wcnt := s.wcnt - 1 } := by
    apply State.ext <;> simp
  by_cases h : s.cs = .captureRepeat
  · refine .inr ⟨h, ?_⟩
    rw [handleWriteData, if_pos h, latched]
  · refine .inl ⟨h, ?_⟩
    rw [handleWriteData, if_neg h, latched]

/-- HANDLE-READ with bytes still to come, or with none. -/
theorem handleRead_cases (b : Byte) :
    (s.rcnt ≠ 0 ∧ handleRead b s = { s with fs := .handleRead, data := b, rcnt := s.rcnt - 1 }) ∨
    (s.rcnt = 0 ∧ handleRead b s = { s with fs := .handleRead, data := b, refused := true }) := by
  by_cases h : s.rcnt = 0
  · refine .inr ⟨h, ?_⟩
    rw [handleRead, if_pos h]
    apply State.ext <;> simp [refuse, h]
  · refine .inl ⟨h, ?_⟩
    rw [handleRead, if_neg h]
    apply State.ext <;> simp

/-- The count operations, each as one update. -/
theorem dispatchCount_cases (nibble : Nibble) (aa bb : SizeField) :
    (nibble = 0x0 ∧ dispatchCount nibble aa bb s =
      { s with cs := .idle, wcnt := byteSize aa, rcnt := byteSize bb }) ∨
    (nibble = 0x1 ∧ dispatchCount nibble aa bb s =
      { s with cs := .idle, wcnt := 0, rcnt := repeatedSize s bb, rep := 0 }) ∨
    (nibble = 0x2 ∧ dispatchCount nibble aa bb s =
      { s with cs := .idle, wcnt := byteSize aa + byteSize bb, rcnt := 0 }) ∨
    (nibble = 0x3 ∧ dispatchCount nibble aa bb s =
      { s with cs := .idle, wcnt := repeatedSize s bb, rcnt := 0, rep := 0 }) ∨
    (nibble = 0x4 ∧ dispatchCount nibble aa bb s = { s with cs := .idle, wcnt := 0, rcnt := 1 }) ∨
    (nibble = 0x5 ∧ dispatchCount nibble aa bb s =
      { s with cs := .captureRepeat, wcnt := byteSize bb, rcnt := 0 }) ∨
    (nibble = 0x6 ∧ dispatchCount nibble aa bb s = { s with cs := .idle, wcnt := 1, rcnt := 0 }) ∨
    (nibble = 0x7 ∧ dispatchCount nibble aa bb s = { s with cs := .idle, wcnt := 8, rcnt := 0 }) ∨
    (nibble = 0xF ∧ dispatchCount nibble aa bb s = { s with cs := .idle }) ∨
    (0x8 ≤ nibble.toNat ∧ nibble.toNat ≤ 0xE ∧
      dispatchCount nibble aa bb s = { s with cs := .idle, refused := true }) := by
  rcases nibble with ⟨⟨k, hk⟩⟩
  interval_cases k <;> simp [dispatchCount] <;> (apply State.ext <;>
    simp [countLds, countLd, countSts, countSt, countLdcs, countRepeat, countStcs, countKey, countIdle,
      countReserved, refuse, repeatedSize])

theorem dispatchCount_upd (nibble : Nibble) (aa bb : SizeField) : (dispatchCount nibble aa bb s).upd = s.upd := by
  rcases dispatchCount_cases s nibble aa bb with
    ⟨_, e⟩ | ⟨_, e⟩ | ⟨_, e⟩ | ⟨_, e⟩ | ⟨_, e⟩ | ⟨_, e⟩ | ⟨_, e⟩ | ⟨_, e⟩ | ⟨_, e⟩ | ⟨_, _, e⟩ <;> rw [e]

/-- A good frame with no transaction open, around the dispatch of its command byte. -/
theorem frameStep_of_command {f : Frame} (hp : xorReduce f = false) (hi : s.opcode = opIdle) :
    frameStep f s =
      { dispatchCount (opcodeField (frameByte f)) (sizeFieldA (frameByte f)) (sizeFieldB (frameByte f)) { s with
          fs := .handleWrite, data := frameByte f, opcode := opcodeField (frameByte f), upd := true, cs := .decode,
          arg := argOf (sizeFieldA (frameByte f)) (sizeFieldB (frameByte f)) } with
        fs := .idle, upd := false } := by
  simp only [frameStep, hp, Bool.false_eq_true, if_false, if_pos hi]
  rw [commandStep_eq _ _ _ _ _ fun t => dispatchCount_upd t _ _ _, opcodeField_commandByte, commandByte_fields]

/-- The four things a frame can be. -/
theorem frameStep_cases (f : Frame) :
    (xorReduce f = true ∧ frameStep f s = { s with
      fs := .idle, errCount := s.errCount + 1, opcode := opIdle, wcnt := 0, rcnt := 0, cs := .idle }) ∨
    (xorReduce f = false ∧ s.opcode = opIdle ∧ exec (decodeCommand (frameByte f)) s = .next (frameStep f s)) ∨
    (xorReduce f = false ∧ s.opcode ≠ opIdle ∧ 0 < s.wcnt ∧
      frameStep f s = finishFrame (handleWriteData (frameByte f) (s.setFs .checkParity))) ∨
    (xorReduce f = false ∧ s.opcode ≠ opIdle ∧ s.wcnt = 0 ∧
      frameStep f s = finishFrame (handleRead (frameByte f) (s.setFs .checkParity))) := by
  cases hp : xorReduce f
  · by_cases hi : s.opcode = opIdle
    · refine .inr (.inl ⟨rfl, hi, ?_⟩)
      rw [decodeCommand, exec_commandOf]
      simp [frameStep, hp, hi]
    · by_cases hw : 0 < s.wcnt
      · refine .inr (.inr (.inl ⟨rfl, hi, hw, ?_⟩))
        simp [frameStep, hp, hi, hostToTarget, hw]
      · refine .inr (.inr (.inr ⟨rfl, hi, by omega, ?_⟩))
        simp [frameStep, hp, hi, hostToTarget, hw]
  · refine .inl ⟨rfl, ?_⟩
    rw [frameStep, if_pos hp, parityError_eq]
    apply State.ext <;> simp

end Sys2Proof.Machine
end

