-- ==== Sys2Proof/Laws/Step.lean ====
section
/-!
SUPPORT. What one step does, turn by turn.
-/

namespace Sys2Proof.Machine

open Sys2Proof.Safety

variable (s : State)

/-- With no turn pending nothing happens. -/
theorem step_of_no_turn (h : s.schedule = []) : step s = .next s := by
  simp [step, fetch, afterFetch, h]

/-- A bus turn runs the instruction of the TAP state. -/
theorem step_of_bus {x : Sample} {rest : List Turn} (h : s.schedule = .bus x :: rest) :
    step s = exec (decodeTap s.tap x) (s.setSchedule rest) := by
  simp [step, fetch, afterFetch, turnInstr, takeTurn, h]

/-- An IDCODE accept turn that finds a value. -/
theorem step_of_acceptId {rest : List Turn} (h : s.schedule = .acceptId :: rest) (hp : s.idPending = true) :
    step s = exec (.outIdcode s.idcode) (s.seeIdcode.setSchedule rest) := by
  simp [step, fetch, afterFetch, turnInstr, takeTurn, h, hp]

/-- A PDI accept turn that finds a value with the frame machine in IDLE. -/
theorem step_of_acceptPdi {rest : List Turn} (h : s.schedule = .acceptPdi :: rest) (hp : s.pdiPending = true)
    (hf : s.fs = .idle) :
    step s = exec (pdiInstr s) (s.seePdi.setSchedule rest) := by
  simp [step, fetch, afterFetch, turnInstr, takeTurn, h, hp, hf]

/-- A miss, or an accept turn with nothing to take, runs no instruction. -/
theorem step_of_nothing {t : Turn} {rest : List Turn} (h : s.schedule = t :: rest)
    (hn : turnInstr t s = none) : step s = .next ((takeTurn t s).setSchedule rest) := by
  simp [step, fetch, afterFetch, h, hn]

/-- The instruction taken from the PDI mailbox does to the state what `frame_step` does. -/
theorem exec_pdiInstr (rest : List Turn) :
    exec (pdiInstr s) (s.seePdi.setSchedule rest) =
      .next (frameStep (activeFrame s) (s.seePdi.setSchedule rest)) := by
  by_cases h : s.opcode = opIdle ∧ xorReduce (activeFrame s) = false
  · rw [pdiInstr, if_pos h, decodeCommand, exec_commandOf]
    simp [frameStep, h.1, h.2]
  · rw [pdiInstr, if_neg h, decodeFrame, exec_pdiFrame]
    congr 2
    exact frameOf_fields _

/-- Every arm of `exec` answers a next state. -/
theorem exec_is_next (i : Instr) : ∃ t, exec i s = .next t := by
  cases i <;> exact ⟨_, rfl⟩

theorem step_eq_stepped : step s = .next (stepped s) := by
  have h : ∃ t, step s = .next t := by
    unfold step
    split
    · exact ⟨_, rfl⟩
    · exact exec_is_next _ _
  obtain ⟨t, ht⟩ := h
  simp [stepped, ht]

theorem stepped_of_step {t : State} (h : step s = .next t) : stepped s = t := by
  simp [stepped, h]

/-- Everything one step can do, by the next turn. -/
theorem step_cases :
    (s.schedule = [] ∧ stepped s = s) ∨
    (∃ x rest, s.schedule = .bus x :: rest ∧
      exec (decodeTap s.tap x) (s.setSchedule rest) = .next (stepped s)) ∨
    (∃ rest, s.schedule = .acceptId :: rest ∧ s.idPending = true ∧
      stepped s = (s.seeIdcode.setSchedule rest).emit (idcodeFrame s.idcode)) ∨
    (∃ rest, s.schedule = .acceptPdi :: rest ∧ s.pdiPending = true ∧ s.fs = .idle ∧
      stepped s = frameStep (activeFrame s) (s.seePdi.setSchedule rest)) ∨
    (∃ rest, (s.schedule = .missId :: rest ∨ s.schedule = .acceptId :: rest ∧ s.idPending = false) ∧
      stepped s = s.seeIdcode.setSchedule rest) ∨
    (∃ rest, (s.schedule = .missPdi :: rest ∨
        s.schedule = .acceptPdi :: rest ∧ (s.pdiPending = false ∨ s.fs ≠ .idle)) ∧
      stepped s = s.seePdi.setSchedule rest) := by
  rcases h : s.schedule with _ | ⟨t, rest⟩
  · exact .inl ⟨rfl, stepped_of_step _ (step_of_no_turn _ h)⟩
  · rcases t with x | _ | _ | _ | _
    · exact .inr (.inl ⟨x, rest, rfl, by rw [← step_eq_stepped, step_of_bus _ h]⟩)
    · cases hp : s.idPending
      · refine .inr (.inr (.inr (.inr (.inl ⟨rest, .inr ⟨rfl, rfl⟩, ?_⟩))))
        exact stepped_of_step _ (step_of_nothing _ h (by simp [turnInstr, hp]))
      · exact .inr (.inr (.inl ⟨rest, rfl, rfl, stepped_of_step _ (step_of_acceptId _ h hp)⟩))
    · by_cases hp : s.pdiPending = true ∧ s.fs = .idle
      · refine .inr (.inr (.inr (.inl ⟨rest, rfl, hp.1, hp.2, stepped_of_step _ ?_⟩)))
        rw [step_of_acceptPdi _ h hp.1 hp.2, exec_pdiInstr]
      · refine .inr (.inr (.inr (.inr (.inr ⟨rest, .inr ⟨rfl, ?_⟩, ?_⟩))))
        · cases hq : s.pdiPending
          · exact .inl rfl
          · exact .inr fun hf => hp ⟨hq, hf⟩
        · exact stepped_of_step _ (step_of_nothing _ h (by simpa [turnInstr] using hp))
    · refine .inr (.inr (.inr (.inr (.inl ⟨rest, .inl rfl, ?_⟩))))
      exact stepped_of_step _ (step_of_nothing _ h rfl)
    · refine .inr (.inr (.inr (.inr (.inr ⟨rest, .inl rfl, ?_⟩))))
      exact stepped_of_step _ (step_of_nothing _ h rfl)

end Sys2Proof.Machine
end

