-- ==== Sys2Proof/Laws/Bus.lean ====
section
/-!
SUPPORT. What a bus step can do, and what a run of bus steps is.
-/

namespace Sys2Proof.Machine

open Sys2Proof.Safety

variable (s : State)

/-- Everything a sample taken in TAP state `t` can do: the TAP advances, after one of six actions. -/
theorem exec_decodeTap_cases (t : TapState) (x : Sample) :
    (t ≠ .reset ∧ t ≠ .shiftDr ∧ t ≠ .updateDr ∧ t ≠ .shiftIr ∧ t ≠ .updateIr ∧
      exec (decodeTap t x) s = .next (advanceTap t x.tms s)) ∨
    (t = .reset ∧ exec (decodeTap t x) s = .next (advanceTap t x.tms (preloadIr s))) ∨
    (t = .shiftDr ∧ exec (decodeTap t x) s = .next (advanceTap t x.tms (shiftData x.tdi x.tdo s))) ∨
    (t = .updateDr ∧ exec (decodeTap t x) s = .next (advanceTap t x.tms (updateData s))) ∨
    (t = .shiftIr ∧ exec (decodeTap t x) s = .next (advanceTap t x.tms (shiftIr x.tdi s))) ∨
    (t = .updateIr ∧ exec (decodeTap t x) s = .next (advanceTap t x.tms (updateIr s))) := by
  cases t <;> simp [decodeTap]

/-- The next TAP state of a bus step depends on the TAP state, `P_SELIR0` and tms (R101). -/
theorem exec_decodeTap_tap {t : TapState} {x : Sample} {u : State} (h : exec (decodeTap t x) s = .next u) :
    u.tap = nextTap s.cfg t x.tms ∧ u.cfg = s.cfg := by
  have keeps : (updateData s).cfg = s.cfg := by
    rcases updateData_cases s with ⟨_, e⟩ | ⟨_, _, e⟩ | ⟨_, _, e⟩ <;> rw [e] <;> rfl
  rcases exec_decodeTap_cases s t x with ⟨_, _, _, _, _, e⟩ | ⟨_, e⟩ | ⟨_, e⟩ | ⟨_, e⟩ | ⟨_, e⟩ | ⟨_, e⟩ <;>
    (rw [e] at h; cases h; simp [advanceTap, preloadIr, shiftData, shiftIr, updateIr, keeps])

@[simp] theorem afterBus_nil : afterBus [] s = s.setSchedule [] := rfl

/-- A bus step, then the rest of the trace. -/
theorem afterBus_cons {x : Sample} {xs : List Sample} {u : State}
    (h : exec (decodeTap s.tap x) (s.setSchedule (xs.map Turn.bus)) = .next u)
    (hs : u.schedule = xs.map Turn.bus) : afterBus (x :: xs) s = afterBus xs u := by
  have first : stepped (onBus (x :: xs) s) = u := by
    apply stepped_of_step
    rw [step_of_bus (onBus (x :: xs) s) (x := x) (rest := xs.map Turn.bus) rfl]
    exact h
  have same : onBus xs u = u := by
    rw [onBus, ← hs]; rfl
  show steppedTimes (xs.length + 1) (onBus (x :: xs) s) = steppedTimes xs.length (onBus xs u)
  rw [steppedTimes, first, same]

/-- No bus step changes the turns still to come. -/
theorem exec_decodeTap_schedule {t : TapState} {x : Sample} {u : State}
    (h : exec (decodeTap t x) s = .next u) : u.schedule = s.schedule := by
  have keeps : (updateData s).schedule = s.schedule := by
    rcases updateData_cases s with ⟨_, e⟩ | ⟨_, _, e⟩ | ⟨_, _, e⟩ <;> rw [e] <;> rfl
  rcases exec_decodeTap_cases s t x with ⟨_, _, _, _, _, e⟩ | ⟨_, e⟩ | ⟨_, e⟩ | ⟨_, e⟩ | ⟨_, e⟩ | ⟨_, e⟩ <;>
    (rw [e] at h; cases h; simp [advanceTap, preloadIr, shiftData, shiftIr, updateIr, keeps])

/-- Turns still to come do not change what a trace of their own does. -/
theorem afterBus_setSchedule (xs : List Sample) (ts : List Turn) :
    afterBus xs (s.setSchedule ts) = afterBus xs s := rfl

/-- The state after the first sample of a trace, and the rest of the trace from it. -/
theorem afterBus_step (x : Sample) (xs : List Sample) :
    ∃ u, exec (decodeTap s.tap x) (s.setSchedule (xs.map Turn.bus)) = .next u ∧
      u.schedule = xs.map Turn.bus ∧ afterBus (x :: xs) s = afterBus xs u := by
  obtain ⟨u, hu⟩ := exec_is_next (s.setSchedule (xs.map Turn.bus)) (decodeTap s.tap x)
  have hs := exec_decodeTap_schedule _ hu
  exact ⟨u, hu, hs, afterBus_cons s hu hs⟩

/-- The turns still to come play no part in what a sample does. -/
theorem exec_decodeTap_setSchedule {t : TapState} {x : Sample} {u : State} (ts : List Turn)
    (h : exec (decodeTap t x) s = .next u) : exec (decodeTap t x) (s.setSchedule ts) = .next (u.setSchedule ts) := by
  have commutes : updateData (s.setSchedule ts) = (updateData s).setSchedule ts := by
    rcases updateData_cases s with ⟨hi, e⟩ | ⟨hi, hp, e⟩ | ⟨hi, hp, e⟩
    · rw [e]; exact if_pos hi
    · rw [e]; exact (if_neg hi).trans (if_pos hp)
    · rw [e]; exact (if_neg hi).trans (if_neg hp)
  cases t <;> (simp only [decodeTap, exec_tapReset, exec_tapIdle, exec_tapSelectDr, exec_tapCaptureDr,
    exec_tapShiftDr, exec_tapExit1Dr, exec_tapPauseDr, exec_tapExit2Dr, exec_tapUpdateDr, exec_tapSelectIr,
    exec_tapCaptureIr, exec_tapShiftIr, exec_tapExit1Ir, exec_tapPauseIr, exec_tapExit2Ir, exec_tapUpdateIr] at h ⊢
               cases h
               try rw [commutes]
               rfl)

/-- One sample: the instruction of the TAP state, with no turn left. -/
theorem afterBus_singleton (x : Sample) :
    exec (decodeTap s.tap x) (s.setSchedule []) = .next (afterBus [x] s) := by
  obtain ⟨u, hu, hs, e⟩ := afterBus_step s x []
  have last : afterBus [] u = u := by
    rw [afterBus_nil, show ([] : List Turn) = u.schedule from hs.symm]
    rfl
  rw [e, last]
  exact hu

/-- A trace in two parts. -/
theorem afterBus_append (xs ys : List Sample) : afterBus (xs ++ ys) s = afterBus ys (afterBus xs s) := by
  induction xs generalizing s with
  | nil => exact (afterBus_setSchedule s ys []).symm
  | cons x xs ih =>
    obtain ⟨u, hu, _, e⟩ := afterBus_step s x xs
    obtain ⟨v, hv, _, e'⟩ := afterBus_step s x (xs ++ ys)
    have hv' := exec_decodeTap_setSchedule _ ((xs ++ ys).map Turn.bus) hu
    have same : v = u.setSchedule ((xs ++ ys).map Turn.bus) :=
      Host.Outcome.next.inj (hv.symm.trans hv')
    rw [e, List.cons_append, e', same, afterBus_setSchedule, ih]

/-- A trace ends with no turn left. -/
theorem afterBus_schedule (xs : List Sample) : (afterBus xs s).schedule = [] := by
  induction xs generalizing s with
  | nil => rfl
  | cons x xs ih =>
    obtain ⟨u, _, _, e⟩ := afterBus_step s x xs
    rw [e, ih]

end Sys2Proof.Machine
end

