-- ==== Sys2Proof/Laws/PerInstr.lean ====
section
/-!
SUPPORT. One family of lemmas over the instructions: each is encoded in the format its row of the opcode table has.
-/

namespace Sys2Proof.Laws

/-- The opcode table's name of an encoded unit's format. -/
def formatOf : Encoded → String
  | .tapState .. => "tap_state"
  | .ir4 _ => "ir4"
  | .pdiFrame9 _ => "pdi_frame9"
  | .pdiCmd8 _ => "pdi_cmd8"
  | .outFrame _ => "out_frame"

/-- The format of an instruction's row in spec/opcode_table.json. -/
def rowFormat : Instr → String
  | .tapReset .. => "tap_state"
  | .tapIdle .. => "tap_state"
  | .tapSelectDr .. => "tap_state"
  | .tapCaptureDr .. => "tap_state"
  | .tapShiftDr .. => "tap_state"
  | .tapExit1Dr .. => "tap_state"
  | .tapPauseDr .. => "tap_state"
  | .tapExit2Dr .. => "tap_state"
  | .tapUpdateDr .. => "tap_state"
  | .tapSelectIr .. => "tap_state"
  | .tapCaptureIr .. => "tap_state"
  | .tapShiftIr .. => "tap_state"
  | .tapExit1Ir .. => "tap_state"
  | .tapPauseIr .. => "tap_state"
  | .tapExit2Ir .. => "tap_state"
  | .tapUpdateIr .. => "tap_state"
  | .irIdcode => "ir4"
  | .irPdicom => "ir4"
  | .irOther .. => "ir4"
  | .pdiFrame .. => "pdi_frame9"
  | .pdiLds .. => "pdi_cmd8"
  | .pdiLd .. => "pdi_cmd8"
  | .pdiSts .. => "pdi_cmd8"
  | .pdiSt .. => "pdi_cmd8"
  | .pdiLdcs .. => "pdi_cmd8"
  | .pdiRepeat .. => "pdi_cmd8"
  | .pdiStcs .. => "pdi_cmd8"
  | .pdiKey .. => "pdi_cmd8"
  | .pdiIdle .. => "pdi_cmd8"
  | .pdiReserved8 .. => "pdi_cmd8"
  | .pdiReserved9 .. => "pdi_cmd8"
  | .pdiReservedA .. => "pdi_cmd8"
  | .pdiReservedB .. => "pdi_cmd8"
  | .pdiReservedC .. => "pdi_cmd8"
  | .pdiReservedD .. => "pdi_cmd8"
  | .pdiReservedE .. => "pdi_cmd8"
  | .outIdcode .. => "out_frame"
  | .outPdi .. => "out_frame"
  | .outErrorReserved => "out_frame"

namespace EncodedInRowFormat

/-- The encoding of `i` has the format of the row of `i`, under all parameters. -/
def Statement (i : Instr) : Prop := ∀ c : Config, formatOf (encode c i) = rowFormat i

theorem tapReset (tms tdi tdo : Bool) : Statement (.tapReset tms tdi tdo) := fun _ => rfl
theorem tapIdle (tms tdi tdo : Bool) : Statement (.tapIdle tms tdi tdo) := fun _ => rfl
theorem tapSelectDr (tms tdi tdo : Bool) : Statement (.tapSelectDr tms tdi tdo) := fun _ => rfl
theorem tapCaptureDr (tms tdi tdo : Bool) : Statement (.tapCaptureDr tms tdi tdo) := fun _ => rfl
theorem tapShiftDr (tms tdi tdo : Bool) : Statement (.tapShiftDr tms tdi tdo) := fun _ => rfl
theorem tapExit1Dr (tms tdi tdo : Bool) : Statement (.tapExit1Dr tms tdi tdo) := fun _ => rfl
theorem tapPauseDr (tms tdi tdo : Bool) : Statement (.tapPauseDr tms tdi tdo) := fun _ => rfl
theorem tapExit2Dr (tms tdi tdo : Bool) : Statement (.tapExit2Dr tms tdi tdo) := fun _ => rfl
theorem tapUpdateDr (tms tdi tdo : Bool) : Statement (.tapUpdateDr tms tdi tdo) := fun _ => rfl
theorem tapSelectIr (tms tdi tdo : Bool) : Statement (.tapSelectIr tms tdi tdo) := fun _ => rfl
theorem tapCaptureIr (tms tdi tdo : Bool) : Statement (.tapCaptureIr tms tdi tdo) := fun _ => rfl
theorem tapShiftIr (tms tdi tdo : Bool) : Statement (.tapShiftIr tms tdi tdo) := fun _ => rfl
theorem tapExit1Ir (tms tdi tdo : Bool) : Statement (.tapExit1Ir tms tdi tdo) := fun _ => rfl
theorem tapPauseIr (tms tdi tdo : Bool) : Statement (.tapPauseIr tms tdi tdo) := fun _ => rfl
theorem tapExit2Ir (tms tdi tdo : Bool) : Statement (.tapExit2Ir tms tdi tdo) := fun _ => rfl
theorem tapUpdateIr (tms tdi tdo : Bool) : Statement (.tapUpdateIr tms tdi tdo) := fun _ => rfl
theorem irIdcode : Statement (.irIdcode) := fun _ => rfl
theorem irPdicom : Statement (.irPdicom) := fun _ => rfl
theorem irOther (ir : Nibble) : Statement (.irOther ir) := fun _ => rfl
theorem pdiFrame (p : Bool) (d : Byte) : Statement (.pdiFrame p d) := fun _ => rfl
theorem pdiLds (aa bb : SizeField) : Statement (.pdiLds aa bb) := fun _ => rfl
theorem pdiLd (aa bb : SizeField) : Statement (.pdiLd aa bb) := fun _ => rfl
theorem pdiSts (aa bb : SizeField) : Statement (.pdiSts aa bb) := fun _ => rfl
theorem pdiSt (aa bb : SizeField) : Statement (.pdiSt aa bb) := fun _ => rfl
theorem pdiLdcs (aa bb : SizeField) : Statement (.pdiLdcs aa bb) := fun _ => rfl
theorem pdiRepeat (aa bb : SizeField) : Statement (.pdiRepeat aa bb) := fun _ => rfl
theorem pdiStcs (aa bb : SizeField) : Statement (.pdiStcs aa bb) := fun _ => rfl
theorem pdiKey (aa bb : SizeField) : Statement (.pdiKey aa bb) := fun _ => rfl
theorem pdiIdle (aa bb : SizeField) : Statement (.pdiIdle aa bb) := fun _ => rfl
theorem pdiReserved8 (aa bb : SizeField) : Statement (.pdiReserved8 aa bb) := fun _ => rfl
theorem pdiReserved9 (aa bb : SizeField) : Statement (.pdiReserved9 aa bb) := fun _ => rfl
theorem pdiReservedA (aa bb : SizeField) : Statement (.pdiReservedA aa bb) := fun _ => rfl
theorem pdiReservedB (aa bb : SizeField) : Statement (.pdiReservedB aa bb) := fun _ => rfl
theorem pdiReservedC (aa bb : SizeField) : Statement (.pdiReservedC aa bb) := fun _ => rfl
theorem pdiReservedD (aa bb : SizeField) : Statement (.pdiReservedD aa bb) := fun _ => rfl
theorem pdiReservedE (aa bb : SizeField) : Statement (.pdiReservedE aa bb) := fun _ => rfl
theorem outIdcode (value : Word) : Statement (.outIdcode value) := fun _ => rfl
theorem outPdi (byte : Byte) : Statement (.outPdi byte) := fun _ => rfl
theorem outErrorReserved : Statement (.outErrorReserved) := fun _ => rfl

end EncodedInRowFormat

end Sys2Proof.Laws
end

