-- ==== Sys2Proof/Tests/Slice0.lean ====
section
/-!
SUPPORT. The model's own tests: the refusals of WellFormed and of the decoder, every constructor decoded from a word
written out from the spec's encodings, one-step vectors of 95_test_vectors.md, and for each statement with hypotheses a
concrete input that meets them.
-/

namespace Sys2Proof.Tests

open Sys2Proof.Machine Sys2Proof.Safety

/-- The state the vectors start from, with their parameter values. -/
def base : State := State.powerOn Config.testVectors

/-- The same with the literal SELECT-IR successor (R104). -/
def literal : State := State.powerOn { Config.testVectors with selIr0 := .captureDr }

/-- The same with the IDCODE taken from TDO (R122). -/
def fromTdo : State := State.powerOn { Config.testVectors with idcodeSrc := .tdo }

/-- What `view` shows of an outcome's next state; none for a fault or a refusal. -/
def seen {α : Type} (o : Host.Outcome State Fault Refusal) (view : State → α) : Option α :=
  match o with
  | .next t => some (view t)
  | .fault _ => none
  | .refused _ => none

/-- A transaction in progress: its opcode and what it still owes. -/
def inTransaction (op : Nibble) (w r : Nat) : State := (base.setOpcode op).setCounts w r

/-- A REPEAT capture in progress. -/
def inCapture (arg : Nibble) (w : Nat) : State := ((inTransaction 0x5 w 0).setCs .captureRepeat).setArg arg

/-- A frame pair waiting in the PDI mailbox, its accept turn next. -/
def waitingFor (w r : Frame) (s : State) : State :=
  { s with pdiW := w, pdiR := r, pdiTgl := !s.pdiSeen, schedule := [.acceptPdi] }

/-! ### WellFormed refuses -/

theorem test_irOther_is_not_idcode : (Instr.irOther 0x3).wellFormed Config.testVectors = false := by decide
theorem test_irOther_is_not_pdicom : (Instr.irOther 0x7).wellFormed Config.testVectors = false := by decide
theorem test_irPdicom_needs_its_own_code :
    Instr.irPdicom.wellFormed { Config.testVectors with irPdicom := 0x3 } = false := by decide
theorem test_other_values_are_wellFormed :
    (Instr.irOther 0x5).wellFormed Config.testVectors = true ∧ Instr.irPdicom.wellFormed Config.testVectors = true := by
  decide

/-! ### Words written out from the spec's encodings (R81, R82, R86, R87, R89, R92) -/

/-- What the decoder reads under the parameters of the vectors. -/
def reads (w : Encoded) (i : Instr) : Bool :=
  match decode Config.testVectors w with
  | .ok j => i == j
  | .error _ => false

/-- Whether the decoder refuses with `e`. -/
def refuses (w : Encoded) (e : DecodeError) : Bool :=
  match decode Config.testVectors w with
  | .ok _ => false
  | .error d => e == d

theorem test_decode_tap_data_states :
    reads (.tapState .reset ⟨true, false, false⟩) (.tapReset true false false) ∧
    reads (.tapState .idle ⟨false, true, false⟩) (.tapIdle false true false) ∧
    reads (.tapState .selectDr ⟨false, false, true⟩) (.tapSelectDr false false true) ∧
    reads (.tapState .captureDr ⟨true, true, false⟩) (.tapCaptureDr true true false) ∧
    reads (.tapState .shiftDr ⟨false, true, true⟩) (.tapShiftDr false true true) ∧
    reads (.tapState .exit1Dr ⟨true, false, true⟩) (.tapExit1Dr true false true) ∧
    reads (.tapState .pauseDr ⟨false, true, false⟩) (.tapPauseDr false true false) ∧
    reads (.tapState .exit2Dr ⟨true, false, false⟩) (.tapExit2Dr true false false) ∧
    reads (.tapState .updateDr ⟨false, false, true⟩) (.tapUpdateDr false false true) := by decide

theorem test_decode_tap_instruction_states :
    reads (.tapState .selectIr ⟨true, false, false⟩) (.tapSelectIr true false false) ∧
    reads (.tapState .captureIr ⟨false, true, false⟩) (.tapCaptureIr false true false) ∧
    reads (.tapState .shiftIr ⟨false, false, true⟩) (.tapShiftIr false false true) ∧
    reads (.tapState .exit1Ir ⟨true, true, false⟩) (.tapExit1Ir true true false) ∧
    reads (.tapState .pauseIr ⟨false, true, true⟩) (.tapPauseIr false true true) ∧
    reads (.tapState .exit2Ir ⟨true, false, true⟩) (.tapExit2Ir true false true) ∧
    reads (.tapState .updateIr ⟨false, true, false⟩) (.tapUpdateIr false true false) := by decide

theorem test_decode_ir :
    reads (.ir4 0b0011) .irIdcode ∧ reads (.ir4 0b0111) .irPdicom ∧ reads (.ir4 0b0101) (.irOther 0b0101) ∧
    reads (.ir4 0b1111) (.irOther 0b1111) := by decide

theorem test_decode_frame :
    reads (.pdiFrame9 0b100100000) (.pdiFrame true 0b00100000) ∧
    reads (.pdiFrame9 0b001010101) (.pdiFrame false 0b01010101) := by decide

theorem test_decode_commands :
    reads (.pdiCmd8 0b00001101) (.pdiLds 0b11 0b01) ∧ reads (.pdiCmd8 0b00010011) (.pdiLd 0b00 0b11) ∧
    reads (.pdiCmd8 0b00100110) (.pdiSts 0b01 0b10) ∧ reads (.pdiCmd8 0b00110001) (.pdiSt 0b00 0b01) ∧
    reads (.pdiCmd8 0b01000010) (.pdiLdcs 0b00 0b10) ∧ reads (.pdiCmd8 0b01010001) (.pdiRepeat 0b00 0b01) ∧
    reads (.pdiCmd8 0b01100011) (.pdiStcs 0b00 0b11) ∧ reads (.pdiCmd8 0b01110100) (.pdiKey 0b01 0b00) ∧
    reads (.pdiCmd8 0b11110101) (.pdiIdle 0b01 0b01) := by decide

theorem test_decode_reserved_commands :
    reads (.pdiCmd8 0b10000000) (.pdiReserved8 0b00 0b00) ∧ reads (.pdiCmd8 0b10010001) (.pdiReserved9 0b00 0b01) ∧
    reads (.pdiCmd8 0b10100010) (.pdiReservedA 0b00 0b10) ∧ reads (.pdiCmd8 0b10110100) (.pdiReservedB 0b01 0b00) ∧
    reads (.pdiCmd8 0b11001000) (.pdiReservedC 0b10 0b00) ∧ reads (.pdiCmd8 0b11011100) (.pdiReservedD 0b11 0b00) ∧
    reads (.pdiCmd8 0b11101111) (.pdiReservedE 0b11 0b11) := by decide

theorem test_decode_output_frames :
    reads (.outFrame [0b00010000, 0x12, 0x34, 0x56, 0x78]) (.outIdcode 0x12345678) ∧
    reads (.outFrame [0b00010001, 0xA1]) (.outPdi 0xA1) ∧ reads (.outFrame [0b00011111]) .outErrorReserved := by decide

theorem test_decode_refuses_by_name :
    refuses (.outFrame []) .noTag ∧ refuses (.outFrame [0x12, 0x00]) (.unknownTag 0x12) ∧
    refuses (.outFrame [0x10, 1, 2, 3]) (.shortFrame 0x10) ∧ refuses (.outFrame [0x11]) (.shortFrame 0x11) ∧
    refuses (.outFrame [0x11, 1, 2]) (.longFrame 0x11) ∧ refuses (.outFrame [0x1F, 0]) (.longFrame 0x1F) := by decide

theorem test_decode_table_words :
    decodeTableWord 8 0x5F = some (.pdiRepeat 0b11 0b11) ∧ decodeTableWord 16 0x155 = some (.pdiFrame true 0x55) ∧
    decodeTableWord 16 0x200 = none ∧ decodeTableWord 40 0x7856341210 = some (.outIdcode 0x12345678) := by decide

/-! ### One bus step: the vectors of 95_test_vectors.md section 2 -/

theorem test_T3_shiftDr :
    seen (exec (.tapShiftDr false true true) (base.setDataRegs 0x00000000 0xFFFFFFFF))
      (fun t => (t.dri, t.dro, t.tap)) = some (0x80000000, 0xFFFFFFFF, .shiftDr) := by decide
theorem test_T4_shiftDr_exit_edge :
    seen (exec (.tapShiftDr true false true) (base.setDataRegs 0x80000001 0x00000000))
      (fun t => (t.dri, t.dro, t.tap)) = some (0x40000000, 0x80000000, .exit1Dr) := by decide
theorem test_T5_captureDr :
    seen (exec (.tapCaptureDr false true false) (base.setDataRegs 0x12345678 0))
      (fun t => (t.dri, t.tap)) = some (0x12345678, .shiftDr) := by decide
theorem test_T6_shiftIr :
    seen (exec (.tapShiftIr false true false) base) (fun t => (t.irs, t.tap)) = some (0x8, .shiftIr) := by decide
theorem test_T8_updateIr :
    seen (exec (.tapUpdateIr false false false) (base.setIrs 0x7)) (fun t => (t.ir, t.tap)) = some (0x7, .idle) := by
  decide
theorem test_T9_updateDr_idcode :
    seen (exec (.tapUpdateDr false false false) (base.setDataRegs 0xCAFEF00D 0))
      (fun t => (t.idcode, t.idTgl, t.tap)) = some (0xCAFEF00D, true, .idle) := by decide
theorem test_T10_updateDr_idcode_from_tdo :
    seen (exec (.tapUpdateDr true false false) (fromTdo.setDataRegs 0xCAFEF00D 0x0BADBEEF))
      (fun t => (t.idcode, t.idTgl, t.tap)) = some (0x0BADBEEF, true, .selectDr) := by decide
theorem test_T11_irPdicom :
    seen (exec .irPdicom ((base.setDataRegs 0x48000000 0x28400000).setIr 0x7))
      (fun t => (t.pdiW, t.pdiR, t.pdiTgl, t.idTgl)) = some (0x120, 0x0A1, true, false) := by decide
theorem test_T9_irIdcode :
    seen (exec .irIdcode (base.setDataRegs 0xCAFEF00D 0)) (fun t => (t.idcode, t.idTgl, t.pdiTgl)) =
      some (0xCAFEF00D, true, false) := by decide
theorem test_T12_irOther :
    seen (exec (.irOther 0x5) (base.setDataRegs 0xCAFEF00D 0)) (fun t => (t.idcode, t.idTgl, t.pdiTgl)) =
      some (0, false, false) := by decide
theorem test_T14_reset :
    seen (exec (.tapReset false false false) (base.setIr 0x7)) (fun t => (t.ir, t.tap)) = some (0x3, .idle) := by decide

/-- The data column of R101 for the states whose only effect is the transition: two successors each. -/
theorem test_T15_data_column :
    seen (exec (.tapIdle true false false) base) (·.tap) = some .selectDr ∧
    seen (exec (.tapSelectDr true false false) base) (·.tap) = some .selectIr ∧
    seen (exec (.tapCaptureDr true false false) base) (·.tap) = some .exit1Dr ∧
    seen (exec (.tapExit1Dr false false false) base) (·.tap) = some .pauseDr ∧
    seen (exec (.tapPauseDr true false false) base) (·.tap) = some .exit2Dr ∧
    seen (exec (.tapExit2Dr false false false) base) (·.tap) = some .shiftDr := by decide
theorem test_T15_instruction_column :
    seen (exec (.tapSelectIr true false false) base) (·.tap) = some .reset ∧
    seen (exec (.tapCaptureIr true false false) base) (·.tap) = some .exit1Ir ∧
    seen (exec (.tapExit1Ir false false false) base) (·.tap) = some .pauseIr ∧
    seen (exec (.tapPauseIr true false false) base) (·.tap) = some .exit2Ir ∧
    seen (exec (.tapExit2Ir false false false) base) (·.tap) = some .shiftIr := by decide
theorem test_selectIr_parameter :
    seen (exec (.tapSelectIr false false false) base) (·.tap) = some .captureIr ∧
    seen (exec (.tapSelectIr false false false) literal) (·.tap) = some .captureDr := by decide

/-! ### One frame: the vectors of 95_test_vectors.md, frames F1 to F12 and counts K1 to K17 -/

/-- The registers a frame vector names. -/
def frameView (t : State) := (t.opcode, t.data, t.wcnt, t.rcnt, t.out)

theorem test_F1_sts :
    seen (step (waitingFor 0x120 0x1FF base)) frameView = some (0x2, 0x20, 2, 0, []) := by decide
theorem test_F8_idle_nibble :
    seen (exec (.pdiIdle 0 0) base) (fun t => (t.opcode, t.data, t.arg, t.out)) = some (0xF, 0xF0, 0, []) := by decide
theorem test_F9_reserved :
    seen (exec (.pdiReserved8 0 0) base) (fun t => (t.opcode, t.wcnt, t.rcnt, t.refused)) = some (0x8, 0, 0, true) := by
  decide
/-- F2, F3, F4 and F11: a data byte, the last write byte, the last read byte, the last REPEAT payload byte. -/
theorem test_F_data_bytes :
    seen (exec (.pdiFrame false 0x55) (inTransaction 0x2 2 0)) frameView = some (0x2, 0x55, 1, 0, [0x11, 0x55]) ∧
    seen (exec (.pdiFrame true 0xA1) (inTransaction 0x2 1 0)) frameView = some (0xF, 0xA1, 0, 0, [0x11, 0xA1]) ∧
    seen (step (waitingFor 0x1FF 0x0A0 (inTransaction 0x0 0 1))) frameView =
      some (0xF, 0xA0, 0, 0, [0x11, 0xA0]) ∧
    seen (exec (.pdiFrame true 0xAD) { inCapture 0x1 1 with acc := 0x01 }) (fun t => (t.wcnt, t.rep, t.cs, t.opcode)) =
      some (0, 0x1AD, .idle, 0xF) := ⟨by decide, by decide, by decide, by decide⟩

/-- F5, F6, F12 and F10: a parity error on a read, on a write and in a REPEAT capture, and a read underflow. -/
theorem test_F_errors :
    seen (step (waitingFor 0x000 0x0A1 (inTransaction 0x0 0 2)))
      (fun t => (t.opcode, t.wcnt, t.rcnt, t.out, t.errCount)) = some (0xF, 0, 0, [], 1) ∧
    seen (step (waitingFor 0x155 0x000 ((inTransaction 0x2 1 0).setData 0x55)))
      (fun t => (t.opcode, t.data, t.wcnt, t.out, t.errCount)) = some (0xF, 0x55, 0, [], 1) ∧
    seen (exec (.pdiFrame true 0x00) ((inCapture 0x1 2).setRep 0x7))
      (fun t => (t.opcode, t.cs, t.wcnt, t.rep, t.errCount)) = some (0xF, .idle, 0, 0x7, 1) ∧
    seen (step (waitingFor 0x000 0x042 (inTransaction 0x8 0 0)))
      (fun t => (t.opcode, t.data, t.rcnt, t.out, t.refused)) = some (0xF, 0x42, 0, [0x11, 0x42], true) :=
  ⟨by decide, by decide, by decide, by decide⟩

/-- The registers a count vector names. -/
def countView (t : State) := (t.wcnt, t.rcnt, t.rep)

theorem test_K2_lds : seen (exec (.pdiLds 0b11 0b00) (base.setRep 9)) countView = some (4, 1, 9) := by decide
theorem test_K3_lds : seen (exec (.pdiLds 0b11 0b11) (base.setRep 9)) countView = some (4, 4, 9) := by decide
theorem test_K5_ld : seen (exec (.pdiLd 0 0b11) (base.setRep 0xFFFFFFFF)) countView = some (0, 17179869184, 0) := by
  decide
theorem test_K6_ld : seen (exec (.pdiLd 0 0b01) (base.setRep 0x0102)) countView = some (0, 518, 0) := by decide
theorem test_K8_sts : seen (exec (.pdiSts 0b11 0b11) (base.setRep 9)) countView = some (8, 0, 9) := by decide
theorem test_K9_st : seen (exec (.pdiSt 0 0b01) (base.setRep 2)) countView = some (6, 0, 0) := by decide
theorem test_K10_st : seen (exec (.pdiSt 0 0b11) (base.setRep 0xFFFFFFFF)) countView = some (17179869184, 0, 0) := by
  decide
theorem test_K11_ldcs :
    seen (exec (.pdiLdcs 0 0b10) (base.setRep 9)) (fun t => (countView t, t.arg)) = some ((0, 1, 9), 0x2) := by decide
theorem test_K12_repeat :
    seen (exec (.pdiRepeat 0 0) (base.setRep 9)) (fun t => (countView t, t.cs)) =
      some ((1, 0, 9), .captureRepeat) := by decide
theorem test_K13_repeat :
    seen (exec (.pdiRepeat 0 0b11) (base.setRep 9)) (fun t => (countView t, t.cs)) =
      some ((4, 0, 9), .captureRepeat) := by decide
theorem test_K14_stcs : seen (exec (.pdiStcs 0 0b11) (base.setRep 9)) countView = some (1, 0, 9) := by decide
theorem test_K15_key : seen (exec (.pdiKey 0 0) (base.setRep 9)) countView = some (8, 0, 9) := by decide
theorem test_K16_idle :
    seen (exec (.pdiIdle 0b01 0b01) (base.setRep 9)) (fun t => (countView t, t.opcode, t.arg)) =
      some ((0, 0, 9), 0xF, 0x5) := by decide

/-- K17: what a reserved nibble leaves. -/
def reservedView (t : State) : Nibble × Nat × Nat × Bool := (t.opcode, t.wcnt, t.rcnt, t.refused)

theorem test_K17_reserved_9_to_B :
    seen (exec (.pdiReserved9 0 0) base) reservedView = some (0x9, 0, 0, true) ∧
    seen (exec (.pdiReservedA 0 0) base) reservedView = some (0xA, 0, 0, true) ∧
    seen (exec (.pdiReservedB 0 0) base) reservedView = some (0xB, 0, 0, true) := by decide
theorem test_K17_reserved_C_to_E :
    seen (exec (.pdiReservedC 0 0) base) reservedView = some (0xC, 0, 0, true) ∧
    seen (exec (.pdiReservedD 0 0) base) reservedView = some (0xD, 0, 0, true) ∧
    seen (exec (.pdiReservedE 0 0) base) reservedView = some (0xE, 0, 0, true) := by decide

/-! ### Output frames (R201, R202, R203) -/

theorem test_outIdcode :
    seen (exec (.outIdcode 0xCAFEF00D) base) (·.out) = some [0x10, 0xCA, 0xFE, 0xF0, 0x0D] := by decide
theorem test_outPdi : seen (exec (.outPdi 0x55) base) (·.out) = some [0x11, 0x55] := by decide
theorem test_outErrorReserved : seen (exec .outErrorReserved base) (·.out) = some [] := by decide

/-! ### The step's own view of a placed word -/

theorem test_withFetchWord_command :
    seen (step (base.withFetchWord 8 0x63)) (fun t => (t.opcode, t.wcnt, t.arg)) = some (0x6, 1, 0x3) := by
  decide
theorem test_withFetchWord_frame_and_idcode :
    seen (step ((inTransaction 0x2 2 0).withFetchWord 16 0x055)) (·.out) = some [0x11, 0x55] ∧
    seen (step (base.withFetchWord 40 0x0DF0FECA10)) (·.out) = some [0x10, 0xCA, 0xFE, 0xF0, 0x0D] := by decide

/-! ### For each statement with hypotheses, an input that meets them -/

/-- A sample with tms = 1, and one with tms = 0. -/
def high : Sample := ⟨true, true, false⟩
def low : Sample := ⟨false, false, true⟩

/-- A state on the bus side: TAP state `t`, one sample `x` to come. -/
def atTap (t : TapState) (x : Sample) : State := (base.setTap t).setSchedule [.bus x]

/-- The dissector's invariant, from checks that evaluate. -/
theorem dissector_of {s : State} (fs : s.fs = .idle) (upd : s.upd = false)
    (counts : (s.opcode = opIdle ∧ s.wcnt = 0 ∧ s.rcnt = 0) ∨ (ActiveOpcode s.opcode ∧ 1 ≤ s.wcnt + s.rcnt))
    (capture : s.cs = .captureRepeat ↔ s.opcode = opRepeat) (owed : s.opcode = opRepeat → 1 ≤ s.wcnt ∧ s.rcnt = 0)
    (rest : s.cs = .idle ∨ s.cs = .captureRepeat) : Dissector s :=
  ⟨fs, upd, counts, capture, owed, rest⟩

theorem dissector_base : Dissector base := by apply dissector_of <;> decide
theorem dissector_writing : Dissector (inTransaction 0x2 1 0) := by apply dissector_of <;> decide
theorem dissector_reading : Dissector (inTransaction 0x0 0 1) := by apply dissector_of <;> decide
theorem dissector_capturing : Dissector (inCapture 0x1 2) := by apply dissector_of <;> decide

/-- Every step answers a next state, so a statement about that state is met by it. -/
theorem step_answers (s : State) : ∃ t, step s = .next t := by
  unfold step
  cases fetch s with
  | none => exact ⟨_, rfl⟩
  | some i => cases i <;> exact ⟨_, rfl⟩

theorem witness_BusStepFollowsTheTapTable :
    high.tms = true ∧ low.tms = false ∧ base.cfg.selIr0 = .captureIr ∧ literal.cfg.selIr0 = .captureDr := by decide

theorem witness_ShiftDrShiftsBothRegisters :
    (0 : Nat) < 31 ∧ (30 : Nat) < 31 ∧
    seen (exec (.tapShiftDr false true true) (base.setDataRegs 0x80000002 0x1))
      (fun t => (t.dri.getLsbD 0, t.dri.getLsbD 30, t.dri.getLsbD 31, t.dro.getLsbD 0)) =
      some (true, true, true, false) := by decide

theorem witness_ShiftIrShiftsTheShadow :
    (0 : Nat) < 3 ∧ (2 : Nat) < 3 ∧
    seen (exec (.tapShiftIr false false false) (base.setIrs 0b1010))
      (fun t => (t.irs.getLsbD 0, t.irs.getLsbD 2, t.irs.getLsbD 3)) = some (true, true, false) := by decide

theorem witness_UpdateDrCommitsByInstruction :
    base.ir = base.cfg.irIdcode ∧
    ((base.setIr 0x7).ir ≠ base.cfg.irIdcode ∧ (base.setIr 0x7).ir = base.cfg.irPdicom) ∧
    ((base.setIr 0x5).ir ≠ base.cfg.irIdcode ∧ (base.setIr 0x5).ir ≠ base.cfg.irPdicom) := by decide

theorem witness_OnlyUpdateDrWritesMailboxes :
    (∃ t, step (atTap .updateDr low) = .next t ∧ t.idTgl = true) ∧
    (∃ t, step ((atTap .updateDr low).setIr 0x7) = .next t ∧ t.pdiTgl = true) ∧
    (∃ t, step (atTap .idle low) = .next t ∧ t.idTgl = false ∧ t.pdiTgl = false) :=
  ⟨⟨_, rfl, rfl⟩, ⟨_, rfl, rfl⟩, ⟨_, rfl, rfl, rfl⟩⟩

theorem witness_FiveOnesThenZeroSelectIdcode :
    Macros.tlr.length = 5 ∧ (∀ x ∈ Macros.tlr, x.tms = true) ∧ low.tms = false := by decide

theorem witness_LiteralSelectIrIsKept :
    literal.cfg.selIr0 = .captureDr ∧ LiteralSelectIr ((literal.setTap .selectIr).setSchedule [.bus low]) ∧
    ∃ t, step ((literal.setTap .selectIr).setSchedule [.bus low]) = .next t ∧ t.tap = .captureDr :=
  ⟨rfl, ⟨by decide, rfl, by decide⟩, ⟨_, rfl, rfl⟩⟩

theorem witness_TapPathDependsOnTmsOnly :
    base.tap = fromTdo.tap ∧ base.cfg.selIr0 = fromTdo.cfg.selIr0 ∧ base ≠ fromTdo ∧
    [high, low].map Sample.tms = [Macros.quiet true, Macros.quiet false].map Sample.tms := by decide

theorem witness_SyncForgetsTheFirstTapState :
    Sync (low :: Macros.tlr) ∧ base.cfg.selIr0 = (base.setTap .pauseIr).cfg.selIr0 ∧
    base.tap ≠ (base.setTap .pauseIr).tap :=
  ⟨⟨[low], Macros.tlr, [], rfl, rfl, by decide⟩, rfl, by decide⟩

/-- Both clauses at their ends: 32 samples leave no older bit, one sample leaves bits 30 to 0. -/
theorem witness_ShiftedBitsStandInOrder :
    (base.setTap .shiftDr).tap = .shiftDr ∧
    (∀ x ∈ (Macros.shifts 32 (0xCAFEF00D : Word) 0).dropLast, x.tms = false) ∧
    (Macros.shifts 32 (0xCAFEF00D : Word) 0).length ≤ 32 ∧
    (Macros.shifts 32 (0xCAFEF00D : Word) 0)[31]? = some ⟨true, true, false⟩ ∧
    [high][0]? = some high ∧ 0 < 32 - [high].length ∧ 30 < 32 - [high].length := by decide

theorem witness_IrScanLoadsTheInstruction :
    (base.setTap .idle).tap = .idle ∧ base.cfg.selIr0 = .captureIr := by decide

theorem witness_IdcodeScanRoundTrip :
    (base.setTap .idle).tap = .idle ∧ (base.setTap .idle).ir = base.cfg.irIdcode := by decide

/-- A state that meets the hypotheses of every scan under PDICOM. -/
theorem witness_PdiFrameScanCommitsThePair :
    let s := (base.setTap .idle).setIr 0x7
    s.tap = .idle ∧ s.ir = s.cfg.irPdicom ∧ s.cfg.irPdicom ≠ s.cfg.irIdcode := by decide

/-- The shortest scan, where every frame bit is old, and the first length that takes a new one. -/
theorem witness_PdiScanOfAnyLengthUsesBits30To22 :
    let s := (base.setTap .idle).setIr 0x7
    s.tap = .idle ∧ s.ir = s.cfg.irPdicom ∧ s.cfg.irPdicom ≠ s.cfg.irIdcode ∧
    1 ≤ 1 ∧ ¬10 ≤ 8 + 1 ∧ 1 ≤ 2 ∧ 8 < 9 ∧ 10 ≤ 8 + 2 := by decide

theorem witness_OddFrameTakesParityError : onesIn (frameOf true 0x00) % 2 = 1 := by decide

theorem witness_ParityDecidesEveryFrame : onesIn (frameOf true 0x20) % 2 = 0 ∧ onesIn (frameOf false 0x20) % 2 = 1 := by
  decide

/-- A byte that leaves more to write, one that ends the writes before a read, and one that ends a transaction. -/
theorem witness_WriteByteIsCountedAndEmitted :
    onesIn (frameOf true 0xA1) % 2 = 0 ∧
    ∀ s ∈ [inTransaction 0x2 2 0, inTransaction 0x0 1 1, inTransaction 0x2 1 0],
      s.opcode ≠ 0xF ∧ 0 < s.wcnt ∧ s.upd = false ∧ s.cs ≠ .captureRepeat := by decide

/-- A payload byte inside a capture, and the last one. -/
theorem witness_RepeatPayloadByteIsCaptured :
    onesIn (frameOf true 0x01) % 2 = 0 ∧
    ∀ s ∈ [inCapture 0x1 2, inCapture 0x1 1],
      s.opcode ≠ 0xF ∧ 0 < s.wcnt ∧ s.upd = false ∧ s.cs = .captureRepeat := by decide

/-- A read byte inside a transaction, and the last one. -/
theorem witness_ReadByteIsCountedAndEmitted :
    onesIn (frameOf false 0xA0) % 2 = 0 ∧
    ∀ s ∈ [inTransaction 0x1 0 2, inTransaction 0x1 0 1],
      s.opcode ≠ 0xF ∧ s.wcnt = 0 ∧ 0 < s.rcnt ∧ s.upd = false := by decide

theorem witness_ReadUnderflowIsRefusedAndContinues :
    onesIn (frameOf false 0x42) % 2 = 0 ∧ (inTransaction 0x8 0 0).opcode ≠ 0xF ∧
    (inTransaction 0x8 0 0).wcnt = 0 ∧ (inTransaction 0x8 0 0).rcnt = 0 ∧ (inTransaction 0x8 0 0).upd = false := by
  decide

theorem witness_FrameWithoutTransactionRunsItsCommand :
    onesIn (frameOf true 0x20) % 2 = 0 ∧ base.opcode = 0xF := by decide

/-- R152's clauses: a step from a kept state, and a byte owed in each direction. -/
theorem witness_DissectorInvariantIsKept :
    DissectorWhileSafe base ∧ (∃ t, step base = .next t) ∧
    (Dissector (inTransaction 0x2 1 0) ∧ (inTransaction 0x2 1 0).opcode ≠ 0xF ∧
      hostToTarget (inTransaction 0x2 1 0) = true) ∧
    (Dissector (inTransaction 0x0 0 1) ∧ (inTransaction 0x0 0 1).opcode ≠ 0xF ∧
      hostToTarget (inTransaction 0x0 0 1) = false) :=
  ⟨fun _ => dissector_base, step_answers _, ⟨dissector_writing, by decide, by decide⟩,
    ⟨dissector_reading, by decide, by decide⟩⟩

/-- The first and the last reserved nibble are refused, their neighbours are not, and the flag stays. -/
theorem witness_OnlyReservedCommandsAreRefused :
    (base.refused = false ∧ Dissector base) ∧
    seen (step (waitingFor 0x180 0 base)) (·.refused) = some true ∧
    seen (step (waitingFor 0x1E0 0 base)) (·.refused) = some true ∧
    seen (step (waitingFor 0x170 0 base)) (·.refused) = some false ∧
    seen (step (waitingFor 0x0F0 0 base)) (·.refused) = some false ∧
    (∃ t, step base.setRefused = .next t ∧ t.refused = true) :=
  ⟨⟨rfl, dissector_base⟩, by decide, by decide, by decide, by decide, ⟨_, rfl, rfl⟩⟩

theorem witness_RepeatThenLoadCountsThePayload :
    Dissector base ∧ base.opcode = 0xF ∧ ([0x01, 0xAD] : List Byte).length = (0b01 : SizeField).toNat + 1 ∧
    (([(0x151, 0), (0x101, 0), (0x1AD, 0)] : List (Frame × Frame)).map Prod.fst) =
      (commandByte 0x5 0 0b01 :: [0x01, 0xAD]).map evenFrame :=
  ⟨dissector_base, rfl, rfl, by decide⟩

/-- STS with two bytes to write, and LDS with one each way. -/
theorem witness_TransactionEmitsExactlyItsBytes :
    Dissector base ∧ base.opcode = 0xF ∧ (opcodeField 0x20).toNat < 8 ∧ (opcodeField 0x00).toNat < 8 ∧
    ([(0x055, 0), (0x1A1, 0)] : List (Frame × Frame)).length =
      (deliver base (evenFrame 0x20, 0)).wcnt + (deliver base (evenFrame 0x20, 0)).rcnt ∧
    (∀ f ∈ ([(0x055, 1), (0x1A1, 1)] : List (Frame × Frame)).mapIdx
        fun k p => transactionFrame (deliver base (evenFrame 0x20, 0)).wcnt k p, onesIn f % 2 = 0) ∧
    (∀ f ∈ ([(0x055, 1), (1, 0x0A0)] : List (Frame × Frame)).mapIdx
        fun k p => transactionFrame (deliver base (evenFrame 0x00, 0)).wcnt k p, onesIn f % 2 = 0) :=
  ⟨dissector_base, rfl, by decide, by decide, by decide, by decide, by decide⟩

/-- A bad frame from each direction, and a good command after it. -/
theorem witness_ParityErrorStartsAfresh :
    (Dissector (inTransaction 0x2 1 0) ∧ hostToTarget (inTransaction 0x2 1 0) = true ∧ onesIn 0x100 % 2 = 1) ∧
    (Dissector (inTransaction 0x0 0 1) ∧ hostToTarget (inTransaction 0x0 0 1) = false ∧ onesIn 0x0A1 % 2 = 1) ∧
    Dissector (inCapture 0x1 2) ∧ onesIn 0x120 % 2 = 0 :=
  ⟨⟨dissector_writing, by decide, by decide⟩, ⟨dissector_reading, by decide, by decide⟩, dissector_capturing,
    by decide⟩

theorem witness_OutputStaysFramed :
    OutFramed (waitingFor 0x055 0 ((inTransaction 0x2 1 0).emit [0x10, 1, 2, 3, 4])) ∧
    seen (step (waitingFor 0x055 0 ((inTransaction 0x2 1 0).emit [0x10, 1, 2, 3, 4]))) (·.out) =
      some [0x10, 1, 2, 3, 4, 0x11, 0x55] := by decide

/-- The three lengths an output can grow by, and a parity error. -/
theorem witness_StepAppendsAtMostOneFrame :
    seen (step (atTap .idle low)) (·.out) = some [] ∧
    seen (step ((base.postIdcode 0xCAFEF00D).setSchedule [.acceptId])) (·.out) =
      some [0x10, 0xCA, 0xFE, 0xF0, 0x0D] ∧
    seen (step (waitingFor 0x055 0 (inTransaction 0x2 1 0))) (·.out) = some [0x11, 0x55] ∧
    seen (step (waitingFor 0x155 0 (inTransaction 0x2 1 0))) (fun t => (t.out, t.errCount)) = some ([], 1) := by
  decide

theorem witness_AgentsWriteTheirOwnState :
    (∃ x rest, (atTap .updateDr low).schedule = .bus x :: rest) ∧ (∃ t, step (atTap .updateDr low) = .next t) ∧
    (∀ x rest, (waitingFor 0x120 0 base).schedule ≠ .bus x :: rest) ∧
    (∃ t, step (waitingFor 0x120 0 base) = .next t) :=
  ⟨⟨low, [], rfl⟩, step_answers _, (by intro x rest h; cases h), step_answers _⟩

/-- One commit to a consumed mailbox and its acceptance, within BUS_SLOW. -/
theorem witness_BusSlowLosesNothing :
    let s := (base.setTap .updateDr).setSchedule [.bus low, .acceptId]
    s.fs = .idle ∧ BusSlow 2 s ∧ along committedId 2 s = [0] ∧ along acceptedId 2 s = [0] :=
  ⟨rfl, ⟨⟨by decide, by decide, by decide, by decide⟩, ⟨by decide, by decide, by decide, by decide⟩, trivial⟩,
    by decide, by decide⟩

/-- One commit and two commits of each mailbox (the vector T13 has two). -/
theorem witness_EvenCommitsAreInvisible :
    base.pdiPending = false ∧ base.idPending = false ∧
    (let s := (base.setTap .updateDr).setDataRegs 0xCAFEF00D 0
     let again := [Macros.quiet true, Macros.quiet false, Macros.quiet true, Macros.quiet true, Macros.quiet false]
     waitingId (afterBus (again.take 1) s) = [0xCAFEF00D] ∧ waitingId (afterBus again s) = [] ∧
     waitingPdi (afterBus (again.take 1) (s.setIr 0x7)) = [(0x12B, 0x000)] ∧
     waitingPdi (afterBus again (s.setIr 0x7)) = []) := by decide

theorem witness_MissStepsOnlyConsumeTheFlag :
    ((base.postIdcode 1).setSchedule [.missId]).schedule = [.missId] ∧
    seen (step ((base.postIdcode 1).setSchedule [.missId])) (·.idPending) = some false ∧
    ((base.postPdi 1 1).setSchedule [.missPdi]).schedule = [.missPdi] ∧
    seen (step ((base.postPdi 1 1).setSchedule [.missPdi])) (·.pdiPending) = some false := by decide

theorem witness_AcceptStepsRunTheirFrames :
    (base.postIdcode 1).idTgl ≠ (base.postIdcode 1).idSeen ∧
    (waitingFor 0x120 0 base).schedule = [.acceptPdi] ∧
    (waitingFor 0x120 0 base).pdiTgl ≠ (waitingFor 0x120 0 base).pdiSeen ∧
    (waitingFor 0x120 0 base).fs = .idle := by decide

theorem witness_AcceptanceOrderOnlyOrdersFrames :
    let s := (waitingFor 0x055 0 (inTransaction 0x2 1 0)).postIdcode 0xCAFEF00D
    s.idPending = true ∧ s.pdiPending = true ∧ s.fs = .idle := by decide

theorem witness_StepRunsTheFetchedInstruction :
    fetch (waitingFor 0x120 0 base) = some (.pdiSts 0 0) ∧ fetch (waitingFor 0x020 0 base) = some (.pdiFrame false 0x20) ∧
    fetch base = none ∧ fetch (base.setSchedule [.missId]) = none ∧
    (atTap .updateIr low).schedule = [.bus low] := by decide

theorem witness_DecodeOfEncodeIsTheInstruction :
    (Instr.irOther 0x5).wellFormed Config.testVectors = true ∧ (Instr.pdiKey 3 3).wellFormed Config.testVectors = true ∧
    (Instr.outIdcode 0xFFFFFFFF).wellFormed Config.testVectors = true := by decide

theorem witness_EncodeOfDecodeIsTheUnit :
    reads (.ir4 0x5) (.irOther 0x5) = true ∧ reads (.outFrame [0x11, 0xFF]) (.outPdi 0xFF) = true ∧
    reads (.pdiCmd8 0xFF) (.pdiIdle 3 3) = true := by decide

/-- The largest count any rule writes is reached. -/
theorem witness_CountersStayBounded :
    CountsBounded (waitingFor (evenFrame 0x13) 0 (base.setRep 0xFFFFFFFF)) ∧
    seen (step (waitingFor (evenFrame 0x13) 0 (base.setRep 0xFFFFFFFF))) (·.rcnt) = some 17179869184 := by decide

/-- An LD command, an ST command, and the last byte of a REPEAT payload change `rep`. -/
theorem witness_RepeatCountChangesOnlyByItsRules :
    seen (step (waitingFor (evenFrame 0x10) 0 (base.setRep 2))) (·.rep) = some 0 ∧
    seen (step (waitingFor (evenFrame 0x30) 0 (base.setRep 2))) (·.rep) = some 0 ∧
    seen (step (waitingFor (evenFrame 0x09) 0 (inCapture 0x0 1))) (·.rep) = some 9 := by decide

theorem witness_OpenTransactionsPersist :
    (∃ t, step ((inTransaction 0x2 2 0).setSchedule [.bus high]) = .next t ∧ t.opcode = 0x2) ∧
    ∀ rest, ((inTransaction 0x2 2 0).setSchedule [.bus high]).schedule ≠ .acceptPdi :: rest :=
  ⟨⟨_, rfl, rfl⟩, (by intro rest h; cases h)⟩

end Sys2Proof.Tests
end

section
/-!
PROOFS. 40_tap.md: the transition table (R101), the way back to RESET (R127), and that no sequence of samples stops or
refuses (R125).

The TAP state after a trace is `nextTap` folded over the trace's tms bits (`afterBus_tap`), and no trace touches what the
processing agent writes (`afterBus_processingPart`).
-/

namespace Sys2Proof.Machine

open Sys2Proof.Safety

variable (s : State)

/-! ### One sample -/

/-- Every sample is accepted in every TAP state, and the TAP advances by the table (R100, R101, R125). -/
theorem exec_decodeTap_answers (t : TapState) (x : Sample) :
    ∃ u, exec (decodeTap t x) s = .next u ∧ u.tap = nextTap s.cfg t x.tms := by
  obtain ⟨u, hu⟩ := exec_is_next s (decodeTap t x)
  exact ⟨u, hu, (exec_decodeTap_tap s hu).1⟩

theorem updateData_processingPart : processingPart (updateData s) = processingPart s := by
  rcases updateData_cases s with ⟨_, e⟩ | ⟨_, _, e⟩ | ⟨_, _, e⟩ <;> rw [e] <;> rfl

/-- A sample changes nothing that the processing agent writes (R231), `refused` among it. -/
theorem exec_decodeTap_processingPart {t : TapState} {x : Sample} {u : State}
    (h : exec (decodeTap t x) s = .next u) : processingPart u = processingPart s := by
  rcases exec_decodeTap_cases s t x with ⟨_, _, _, _, _, e⟩ | ⟨_, e⟩ | ⟨_, e⟩ | ⟨_, e⟩ | ⟨_, e⟩ | ⟨_, e⟩ <;>
    rw [e] at h <;> cases h
  · rfl
  · rfl
  · rfl
  · exact updateData_processingPart s
  · rfl
  · rfl

theorem refused_of_processingPart {s u : State} (h : processingPart u = processingPart s) :
    u.refused = s.refused :=
  congrArg (fun p => p.2.2.2.2.2) h

/-! ### A trace of samples -/

theorem afterBus_tap_and_cfg (xs : List Sample) :
    (afterBus xs s).tap = (xs.map Sample.tms).foldl (nextTap s.cfg) s.tap ∧ (afterBus xs s).cfg = s.cfg := by
  induction xs generalizing s with
  | nil => exact ⟨rfl, rfl⟩
  | cons x xs ih =>
    obtain ⟨u, hu, _, e⟩ := afterBus_step s x xs
    obtain ⟨htap, hcfg⟩ : u.tap = nextTap s.cfg s.tap x.tms ∧ u.cfg = s.cfg :=
      exec_decodeTap_tap (s.setSchedule (xs.map Turn.bus)) hu
    obtain ⟨ihTap, ihCfg⟩ := ih u
    rw [e]
    exact ⟨by rw [ihTap, htap, hcfg, List.map_cons, List.foldl_cons], ihCfg.trans hcfg⟩

/-- The TAP state after a trace is the table run over the trace's tms bits. -/
theorem afterBus_tap (xs : List Sample) :
    (afterBus xs s).tap = (xs.map Sample.tms).foldl (nextTap s.cfg) s.tap := (afterBus_tap_and_cfg s xs).1

@[simp] theorem afterBus_cfg (xs : List Sample) : (afterBus xs s).cfg = s.cfg := (afterBus_tap_and_cfg s xs).2

theorem afterBus_processingPart (xs : List Sample) : processingPart (afterBus xs s) = processingPart s := by
  induction xs generalizing s with
  | nil => rfl
  | cons x xs ih =>
    obtain ⟨u, hu, _, e⟩ := afterBus_step s x xs
    have first : processingPart u = processingPart s :=
      exec_decodeTap_processingPart (s.setSchedule (xs.map Turn.bus)) hu
    rw [e, ih, first]

theorem run_succ_of_next {M : Host.Core} {s t : M.State} (h : M.step s = .next t) (k : Nat) :
    M.run (k + 1) s = M.run k t := by
  rw [Host.Core.run, h]

/-- A run of the core never stops: it is as many steps as it was asked for. -/
theorem core_run_eq_steppedTimes (k : Nat) :
    Sys2Proof.core.run k s = .next (steppedTimes k s) := by
  induction k generalizing s with
  | zero => rfl
  | succ k ih => exact (run_succ_of_next (M := Sys2Proof.core) (step_eq_stepped s) k).trans (ih (stepped s))

/-! ### The way back to RESET -/

/-- From every TAP state the tms = 1 column of the table leads to RESET in five edges or fewer, and RESET keeps. -/
theorem foldl_nextTap_five_ones (c : Config) (t : TapState) :
    (List.replicate 5 true).foldl (nextTap c) t = .reset := by
  cases t <;> rfl

theorem afterBus_five_ones_tap {xs : List Sample} (hlen : xs.length = 5) (hones : ∀ x ∈ xs, x.tms = true) :
    (afterBus xs s).tap = .reset := by
  have bits : xs.map Sample.tms = List.replicate 5 true :=
    List.eq_replicate_iff.2 ⟨by rw [List.length_map, hlen], by simpa using hones⟩
  rw [afterBus_tap, bits, foldl_nextTap_five_ones]

/-- One sample taken in RESET preloads `ir` and advances (R105). -/
theorem afterBus_singleton_of_reset (h : s.tap = .reset) (x : Sample) :
    afterBus [x] s = advanceTap .reset x.tms (preloadIr (s.setSchedule [])) := by
  have run := afterBus_singleton s x
  rw [h, decodeTap, exec_tapReset] at run
  exact (Host.Outcome.next.inj run).symm

end Sys2Proof.Machine

namespace Sys2Proof.Proofs

open Sys2Proof.Machine Sys2Proof.Safety

/-- Settles O13: every path of five ones ends in RESET (R101), and the sample after it acts there (R105). -/
theorem fiveOnesThenZeroSelectIdcode : Obligations.FiveOnesThenZeroSelectIdcode := by
  intro s xs hlen hones
  have atReset := afterBus_five_ones_tap s hlen hones
  refine ⟨atReset, fun x hx => ?_⟩
  rw [afterBus_append, afterBus_singleton_of_reset _ atReset, hx]
  exact ⟨rfl, by simp [advanceTap, preloadIr]⟩

/-- Settles O60: no step of the core stops, and no sample touches the processing agent's `refused`. -/
theorem samplesNeverFaultStopOrRefuse : Obligations.SamplesNeverFaultStopOrRefuse := by
  refine ⟨fun s x => ?_, fun s xs => ?_⟩
  · obtain ⟨u, hu, _⟩ := exec_decodeTap_answers s s.tap x
    exact ⟨u, hu, refused_of_processingPart (exec_decodeTap_processingPart s hu)⟩
  · exact ⟨afterBus xs s, core_run_eq_steppedTimes _ _, refused_of_processingPart (afterBus_processingPart s xs)⟩

/-- Settles O3: every TAP state answers with `nextTap`, which is the table row by row, SELECT-IR by `P_SELIR0`. -/
theorem busStepFollowsTheTapTable : Obligations.BusStepFollowsTheTapTable := by
  refine ⟨fun row hrow x s => ?_, fun x s hx => ?_, fun x s hx hp => ?_, fun x s hx hp => ?_⟩
  · obtain ⟨u, hu, tap⟩ := exec_decodeTap_answers s row.1 x
    refine ⟨u, hu, tap.trans ?_⟩
    fin_cases hrow <;> cases x.tms <;> rfl
  all_goals
    obtain ⟨u, hu, tap⟩ := exec_decodeTap_answers s .selectIr x
    refine ⟨u, hu, tap.trans ?_⟩
  · rw [hx]; rfl
  · rw [hx, nextTap, hp]
  · rw [hx, nextTap, hp]

end Sys2Proof.Proofs
end

section
/-!
PROOFS. 41_pdi_frame.md: what the parity of a frame decides (R142).

A frame that passes CHECK-PARITY latches its byte in HANDLE-WRITE or HANDLE-READ, and no later phase of its step writes
`data` or counts a pulse; a frame that fails it goes through PARITY-ERROR only.
-/

namespace Sys2Proof.Machine

variable (s : State)

/-! ### The phases that leave the byte and the count of pulses alone -/

@[simp] theorem finishFrame_data : (finishFrame s).data = s.data := by
  rcases finishFrame_cases s with ⟨_, e⟩ | ⟨_, _, _, e⟩ | ⟨_, _, e⟩ <;> rw [e]

@[simp] theorem finishFrame_errCount : (finishFrame s).errCount = s.errCount := by
  rcases finishFrame_cases s with ⟨_, e⟩ | ⟨_, _, _, e⟩ | ⟨_, _, e⟩ <;> rw [e]

theorem repeatCapture_keeps_data_errCount (b : Byte) :
    (repeatCapture b s).data = s.data ∧ (repeatCapture b s).errCount = s.errCount := by
  rcases repeatCapture_cases s b with ⟨_, e⟩ | ⟨_, e⟩ <;> rw [e] <;> exact ⟨rfl, rfl⟩

theorem dispatchCount_keeps_data_errCount (nibble : Nibble) (aa bb : SizeField) :
    (dispatchCount nibble aa bb s).data = s.data ∧ (dispatchCount nibble aa bb s).errCount = s.errCount := by
  rcases dispatchCount_cases s nibble aa bb with
    ⟨_, e⟩ | ⟨_, e⟩ | ⟨_, e⟩ | ⟨_, e⟩ | ⟨_, e⟩ | ⟨_, e⟩ | ⟨_, e⟩ | ⟨_, e⟩ | ⟨_, e⟩ | ⟨_, _, e⟩ <;>
    rw [e] <;> exact ⟨rfl, rfl⟩

/-! ### The phases that latch the byte -/

theorem handleWriteData_latches (b : Byte) :
    (handleWriteData b s).data = b ∧ (handleWriteData b s).errCount = s.errCount := by
  rcases handleWriteData_cases s b with ⟨_, e⟩ | ⟨_, e⟩ <;> rw [e]
  · exact ⟨rfl, rfl⟩
  · exact repeatCapture_keeps_data_errCount _ b

theorem handleRead_latches (b : Byte) :
    (handleRead b s).data = b ∧ (handleRead b s).errCount = s.errCount := by
  rcases handleRead_cases s b with ⟨_, e⟩ | ⟨_, e⟩ <;> rw [e] <;> exact ⟨rfl, rfl⟩

/-! ### The whole frame -/

/-- A good frame, be it a command byte, a write byte or a read byte (R143, R144, R146). -/
theorem frameStep_latches_of_even {f : Frame} (hp : xorReduce f = false) :
    (frameStep f s).data = frameByte f ∧ (frameStep f s).errCount = s.errCount := by
  rcases frameStep_cases s f with ⟨odd, _⟩ | ⟨_, closed, _⟩ | ⟨_, _, _, e⟩ | ⟨_, _, _, e⟩
  · exact absurd (odd.symm.trans hp) (by decide)
  · rw [frameStep_of_command s hp closed]
    exact dispatchCount_keeps_data_errCount _ _ _ _
  · rw [e, finishFrame_data, finishFrame_errCount]
    exact handleWriteData_latches (s.setFs .checkParity) (frameByte f)
  · rw [e, finishFrame_data, finishFrame_errCount]
    exact handleRead_latches (s.setFs .checkParity) (frameByte f)

/-- A bad frame takes PARITY-ERROR and the return from it (R150). -/
theorem frameStep_of_odd {f : Frame} (hp : xorReduce f = true) :
    frameStep f s = { s with
      fs := .idle, errCount := s.errCount + 1, opcode := opIdle, wcnt := 0, rcnt := 0, cs := .idle } := by
  rcases frameStep_cases s f with ⟨_, e⟩ | ⟨even, _⟩ | ⟨even, _⟩ | ⟨even, _⟩
  · exact e
  all_goals exact absurd (hp.symm.trans even) (by decide)

end Sys2Proof.Machine

namespace Sys2Proof.Proofs

open Sys2Proof.Machine Sys2Proof.Safety

/-- Settles O24: the number of ones decides CHECK-PARITY, whose two ways out are `frameStep_latches_of_even` and
`frameStep_of_odd`. -/
theorem parityDecidesEveryFrame : Obligations.ParityDecidesEveryFrame := by
  intro s p d
  refine ⟨frameStep (frameOf p d) s, exec_pdiFrame s p d, fun even => ?_, fun odd => ?_⟩
  · obtain ⟨latched, noPulse⟩ := frameStep_latches_of_even s ((xorReduce_eq_false_iff_even _).2 even)
    exact ⟨noPulse, latched.trans (frameByte_frameOf p d)⟩
  · rw [frameStep_of_odd s ((xorReduce_iff_odd _).2 odd)]
    exact ⟨rfl, rfl, rfl⟩

end Sys2Proof.Proofs
end

section
/-!
PROOFS. 42_pdi_count.md: the commands that only write the two counts (R171, R173, R175 to R178).

The count operation of each such command is one update of `wcnt`, `rcnt` and `cs`; `commandStep_of_counts` places it
inside the command frame, whose other phases latch the byte and come to rest (R143, R147, R170).
-/

namespace Sys2Proof.Machine

open Sys2Proof.Safety

variable (s : State)

/-! ### Each count operation as one update -/

theorem countLds_eq (aa bb : SizeField) :
    countLds aa bb s = { s with wcnt := aa.toNat + 1, rcnt := bb.toNat + 1, cs := .idle } := rfl

theorem countSts_eq (aa bb : SizeField) :
    countSts aa bb s = { s with wcnt := (aa.toNat + 1) + (bb.toNat + 1), rcnt := 0, cs := .idle } := rfl

theorem countLdcs_eq : countLdcs s = { s with wcnt := 0, rcnt := 1, cs := .idle } := rfl

theorem countRepeat_eq (bb : SizeField) :
    countRepeat bb s = { s with wcnt := bb.toNat + 1, rcnt := 0, cs := .captureRepeat } := rfl

theorem countStcs_eq : countStcs s = { s with wcnt := 1, rcnt := 0, cs := .idle } := rfl

theorem countKey_eq : countKey s = { s with wcnt := 8, rcnt := 0, cs := .idle } := rfl

/-! ### The command frame around it -/

/-- A command whose count operation writes the two counts and the count machine's state does nothing else but latch
its byte. -/
theorem commandStep_of_counts {nibble : Nibble} {aa bb : SizeField} {count : State → State} {w r : Nat} {c : CountState}
    (writes : ∀ t, count t = { t with wcnt := w, rcnt := r, cs := c }) :
    commandStep nibble aa bb count s =
      { commandLatched nibble aa bb s with wcnt := w, rcnt := r, cs := c } := by
  have keeps : ∀ t, (count t).upd = t.upd := fun t => by rw [writes]
  rw [commandStep_eq s nibble aa bb count keeps, writes, opcodeField_commandByte]
  rfl

end Sys2Proof.Machine

namespace Sys2Proof.Proofs

open Sys2Proof.Machine Sys2Proof.Safety

/-- Settles O30: LDS and STS write the counts of `countLds_eq` and `countSts_eq` inside a command frame. -/
theorem directCommandsSetTheirCounts : Obligations.DirectCommandsSetTheirCounts := by
  intro s aa bb
  rw [exec_pdiLds, exec_pdiSts, commandStep_of_counts s fun t => countLds_eq t aa bb,
    commandStep_of_counts s fun t => countSts_eq t aa bb]
  exact ⟨rfl, rfl⟩

/-- Settles O32: no count operation of LDCS, STCS and KEY takes an argument nibble. -/
theorem fixedCommandsSetTheirCounts : Obligations.FixedCommandsSetTheirCounts := by
  intro s aa bb
  rw [exec_pdiLdcs, exec_pdiStcs, exec_pdiKey, commandStep_of_counts s countLdcs_eq,
    commandStep_of_counts s countStcs_eq, commandStep_of_counts s countKey_eq]
  exact ⟨rfl, rfl, rfl⟩

/-- Settles O33: `countRepeat_eq` is the one count operation that leaves the count machine waiting. -/
theorem repeatCommandWaitsForItsPayload : Obligations.RepeatCommandWaitsForItsPayload := by
  intro s aa bb
  rw [exec_pdiRepeat, commandStep_of_counts s fun t => countRepeat_eq t bb]

end Sys2Proof.Proofs
end

section
/-!
PROOFS. 30_encoding.md: every format's decoder and encoder are each other's inverse (sections 1 to 8).

One lemma per format and direction; the two statements put them together, row by row and unit by unit.
-/

namespace Sys2Proof

/-! ### From the instruction to its unit and back -/

theorem decodeFrame_frameOf (p : Bool) (d : Byte) : decodeFrame (frameOf p d) = .pdiFrame p d := by
  have parity : (frameOf p d).getLsbD 8 = p := by
    rw [frameOf, BitVec.getLsbD_cons, if_pos rfl]
  rw [decodeFrame, parity]
  exact congrArg _ (Machine.frameByte_frameOf p d)

theorem decodeCommand_commandByte (nibble : Nibble) (aa bb : SizeField) :
    decodeCommand (commandByte nibble aa bb) = commandOf nibble aa bb := by
  simp [decodeCommand]

theorem decodeOut_idcodeFrame (v : Word) : decodeOut (idcodeFrame v) = .ok (.outIdcode v, []) := by
  simp [decodeOut, idcodeFrame, Machine.wordOfBytes_of_bytes]

theorem decodeIr_of_ne {c : Config} {v : Nibble} (hi : v ≠ c.irIdcode) (hp : v ≠ c.irPdicom) :
    decodeIr c v = .irOther v := by
  rw [decodeIr, if_neg hi, if_neg hp]

theorem decodeIr_irIdcode (c : Config) : decodeIr c c.irIdcode = .irIdcode := if_pos rfl

theorem decodeIr_irPdicom {c : Config} (h : c.irPdicom ≠ c.irIdcode) : decodeIr c c.irPdicom = .irPdicom := by
  rw [decodeIr, if_neg h, if_pos rfl]

/-! ### From the unit to its instruction and back -/

theorem decodeTap_encodes (c : Config) (t : TapState) (x : Sample) :
    (decodeTap t x).wellFormed c = true ∧ encode c (decodeTap t x) = .tapState t x := by
  cases t <;> exact ⟨rfl, rfl⟩

theorem decodeIr_encodes (c : Config) (v : Nibble) :
    (decodeIr c v).wellFormed c = true ∧ encode c (decodeIr c v) = .ir4 v := by
  by_cases hi : v = c.irIdcode
  · rw [hi, decodeIr_irIdcode]
    exact ⟨rfl, rfl⟩
  · by_cases hp : v = c.irPdicom
    · have own : c.irPdicom ≠ c.irIdcode := hp ▸ hi
      rw [hp, decodeIr_irPdicom own]
      exact ⟨by simpa [Instr.wellFormed] using own, rfl⟩
    · rw [decodeIr_of_ne hi hp]
      exact ⟨by simp [Instr.wellFormed, hi, hp], rfl⟩

theorem commandOf_encodes (c : Config) (nibble : Nibble) (aa bb : SizeField) :
    (commandOf nibble aa bb).wellFormed c = true ∧
      encode c (commandOf nibble aa bb) = .pdiCmd8 (commandByte nibble aa bb) := by
  rcases nibble with ⟨⟨k, hk⟩⟩
  interval_cases k <;> exact ⟨rfl, rfl⟩

theorem encode_outIdcode_wordOfBytes (c : Config) (b3 b2 b1 b0 : Byte) :
    encode c (.outIdcode (wordOfBytes b3 b2 b1 b0)) = .outFrame [tagIdcode, b3, b2, b1, b0] := by
  obtain ⟨e3, e2, e1, e0⟩ := Machine.bytes_of_wordOfBytes b3 b2 b1 b0
  rw [encode, idcodeFrame, e3, e2, e1, e0]

/-- What is read off the front of a byte stream is a well-formed output frame with that frame's bytes (R92). -/
theorem decodeOut_encodes (c : Config) {bytes rest : List Byte} {i : Instr} (h : decodeOut bytes = .ok (i, rest)) :
    i.wellFormed c = true ∧ ∃ frame, encode c i = .outFrame frame ∧ bytes = frame ++ rest := by
  rcases bytes with _ | ⟨tag, payload⟩
  · cases h
  simp only [decodeOut] at h
  split at h
  · next ht =>
    subst ht
    split at h
    · cases h
      exact ⟨rfl, _, encode_outIdcode_wordOfBytes c _ _ _ _, rfl⟩
    · cases h
  · split at h
    · next ht =>
      subst ht
      split at h
      · cases h
        exact ⟨rfl, _, rfl, rfl⟩
      · cases h
    · split at h
      · next ht =>
        subst ht
        cases h
        exact ⟨rfl, _, rfl, rfl⟩
      · cases h

/-- An output frame decodes only where nothing follows it. -/
theorem decode_outFrame {c : Config} {bytes : List Byte} {i : Instr} (h : decode c (.outFrame bytes) = .ok i) :
    decodeOut bytes = .ok (i, []) := by
  rw [decode] at h
  split at h
  · next e =>
    cases h
    exact e
  · cases h
  · cases h

end Sys2Proof

namespace Sys2Proof.Proofs

/-- Settles O54: the rows of each format by that format's lemma; only the IR rows use well-formedness. -/
theorem decodeOfEncodeIsTheInstruction : Obligations.DecodeOfEncodeIsTheInstruction := by
  intro c i wf
  cases i with
  | irIdcode => exact congrArg _ (decodeIr_irIdcode c)
  | irPdicom => exact congrArg _ (decodeIr_irPdicom (by simpa [Instr.wellFormed] using wf))
  | irOther v =>
    obtain ⟨hi, hp⟩ : v ≠ c.irIdcode ∧ v ≠ c.irPdicom := by simpa [Instr.wellFormed] using wf
    exact congrArg _ (decodeIr_of_ne hi hp)
  | pdiFrame p d => exact congrArg _ (decodeFrame_frameOf p d)
  | outIdcode v => rw [encode, decode, decodeOut_idcodeFrame]
  | outPdi b => rfl
  | outErrorReserved => rfl
  | tapReset | tapIdle | tapSelectDr | tapCaptureDr | tapShiftDr | tapExit1Dr | tapPauseDr | tapExit2Dr
  | tapUpdateDr | tapSelectIr | tapCaptureIr | tapShiftIr | tapExit1Ir | tapPauseIr | tapExit2Ir | tapUpdateIr => rfl
  | pdiLds aa bb | pdiLd aa bb | pdiSts aa bb | pdiSt aa bb | pdiLdcs aa bb | pdiRepeat aa bb | pdiStcs aa bb
  | pdiKey aa bb | pdiIdle aa bb | pdiReserved8 aa bb | pdiReserved9 aa bb | pdiReservedA aa bb
  | pdiReservedB aa bb | pdiReservedC aa bb | pdiReservedD aa bb | pdiReservedE aa bb =>
    exact congrArg _ (decodeCommand_commandByte _ aa bb)

/-- Settles O55: each format's decoder answers an instruction whose encoding is the unit it was given. -/
theorem encodeOfDecodeIsTheUnit : Obligations.EncodeOfDecodeIsTheUnit := by
  intro c w i h
  cases w with
  | tapState t x =>
    cases h
    exact decodeTap_encodes c t x
  | ir4 v =>
    cases h
    exact decodeIr_encodes c v
  | pdiFrame9 f =>
    cases h
    exact ⟨rfl, congrArg _ (Machine.frameOf_fields f)⟩
  | pdiCmd8 b =>
    cases h
    obtain ⟨wf, unit⟩ := commandOf_encodes c (opcodeField b) (sizeFieldA b) (sizeFieldB b)
    exact ⟨wf, unit.trans (congrArg _ (Machine.commandByte_fields b))⟩
  | outFrame bytes =>
    obtain ⟨wf, frame, unit, same⟩ := decodeOut_encodes c (decode_outFrame h)
    rw [List.append_nil] at same
    exact ⟨wf, same ▸ unit⟩

/-- Settles O56: the decoder evaluated on the six words. -/
theorem writtenOutWordsDecode : Obligations.WrittenOutWordsDecode :=
  ⟨rfl, rfl, rfl, rfl, rfl, rfl⟩

end Sys2Proof.Proofs
end

section
/-!
PROOFS. What one step leaves unchanged, agent by agent, and what it appends to the output (20_memory.md, 40_tap.md,
43_emitter.md, 60_exceptions.md).

A bus step is one of six TAP actions (`exec_decodeTap_cases`), and a frame writes the dissector, `out`, `errCount` and
`refused` only (`frameStep_writes`). Every invariant here is read off `step_cases` with these two.
-/

namespace Sys2Proof.Machine

open Sys2Proof.Safety

variable (s : State)

/-! ### What a frame writes -/

theorem repeatCapture_writes (b : Byte) :
    repeatCapture b s = { s with
      acc := (repeatCapture b s).acc, rep := (repeatCapture b s).rep, cs := (repeatCapture b s).cs } := by
  rcases repeatCapture_cases s b with ⟨_, e⟩ | ⟨_, e⟩ <;> rw [e]

theorem handleWriteData_writes (b : Byte) :
    handleWriteData b s = { s with
      fs := .handleWrite, data := b, wcnt := s.wcnt - 1, acc := (handleWriteData b s).acc,
      rep := (handleWriteData b s).rep, cs := (handleWriteData b s).cs } := by
  rcases handleWriteData_cases s b with ⟨_, e⟩ | ⟨_, e⟩ <;> rw [e]
  rw [repeatCapture_writes]

theorem handleRead_writes (b : Byte) :
    handleRead b s = { s with
      fs := .handleRead, data := b, rcnt := s.rcnt - 1, refused := (handleRead b s).refused } := by
  rcases handleRead_cases s b with ⟨_, e⟩ | ⟨none, e⟩ <;> rw [e]
  rw [none]

theorem finishFrame_writes :
    finishFrame s = { s with
      fs := .idle, upd := (finishFrame s).upd, opcode := (finishFrame s).opcode, out := (finishFrame s).out } := by
  rcases finishFrame_cases s with ⟨_, e⟩ | ⟨_, _, _, e⟩ | ⟨_, _, e⟩ <;> rw [e]

theorem dispatchCount_writes (nibble : Nibble) (aa bb : SizeField) :
    dispatchCount nibble aa bb s = { s with
      cs := (dispatchCount nibble aa bb s).cs, wcnt := (dispatchCount nibble aa bb s).wcnt,
      rcnt := (dispatchCount nibble aa bb s).rcnt, rep := (dispatchCount nibble aa bb s).rep,
      refused := (dispatchCount nibble aa bb s).refused } := by
  rcases dispatchCount_cases s nibble aa bb with
    ⟨_, e⟩ | ⟨_, e⟩ | ⟨_, e⟩ | ⟨_, e⟩ | ⟨_, e⟩ | ⟨_, e⟩ | ⟨_, e⟩ | ⟨_, e⟩ | ⟨_, e⟩ | ⟨_, _, e⟩ <;> rw [e]

/-- A frame writes the dissector, the output, the pulse count and `refused`; it ends with `fs` in IDLE (R149). -/
theorem frameStep_writes (f : Frame) :
    frameStep f s = { s with
      opcode := (frameStep f s).opcode, fs := .idle, cs := (frameStep f s).cs, arg := (frameStep f s).arg,
      data := (frameStep f s).data, upd := (frameStep f s).upd, wcnt := (frameStep f s).wcnt,
      rcnt := (frameStep f s).rcnt, rep := (frameStep f s).rep, acc := (frameStep f s).acc,
      out := (frameStep f s).out, errCount := (frameStep f s).errCount, refused := (frameStep f s).refused } := by
  rcases frameStep_cases s f with ⟨_, e⟩ | ⟨even, closed, _⟩ | ⟨_, _, _, e⟩ | ⟨_, _, _, e⟩
  · rw [e]
  · rw [frameStep_of_command s even closed, dispatchCount_writes]
  · rw [e, finishFrame_writes, handleWriteData_writes]
    rfl
  · rw [e, finishFrame_writes, handleRead_writes]
    rfl

@[simp] theorem frameStep_fs (f : Frame) : (frameStep f s).fs = .idle := by rw [frameStep_writes]
@[simp] theorem frameStep_cfg (f : Frame) : (frameStep f s).cfg = s.cfg := by rw [frameStep_writes]
@[simp] theorem frameStep_schedule (f : Frame) : (frameStep f s).schedule = s.schedule := by rw [frameStep_writes]
@[simp] theorem frameStep_idcode (f : Frame) : (frameStep f s).idcode = s.idcode := by rw [frameStep_writes]
@[simp] theorem frameStep_idTgl (f : Frame) : (frameStep f s).idTgl = s.idTgl := by rw [frameStep_writes]
@[simp] theorem frameStep_pdiW (f : Frame) : (frameStep f s).pdiW = s.pdiW := by rw [frameStep_writes]
@[simp] theorem frameStep_pdiR (f : Frame) : (frameStep f s).pdiR = s.pdiR := by rw [frameStep_writes]
@[simp] theorem frameStep_pdiTgl (f : Frame) : (frameStep f s).pdiTgl = s.pdiTgl := by rw [frameStep_writes]
@[simp] theorem frameStep_idSeen (f : Frame) : (frameStep f s).idSeen = s.idSeen := by rw [frameStep_writes]
@[simp] theorem frameStep_pdiSeen (f : Frame) : (frameStep f s).pdiSeen = s.pdiSeen := by rw [frameStep_writes]

theorem frameStep_busPart (f : Frame) : busPart (frameStep f s) = busPart s := by
  rw [frameStep_writes]
  rfl

/-! ### What a frame appends -/

theorem finishFrame_out :
    (finishFrame s).out = s.out ∨ (finishFrame s).out = s.out ++ pdiEventFrame s.data := by
  rcases finishFrame_cases s with ⟨_, e⟩ | ⟨_, _, _, e⟩ | ⟨_, _, e⟩ <;> rw [e]
  · exact .inl rfl
  · exact .inr rfl
  · exact .inr rfl

/-- A frame counts one pulse and appends nothing, or counts none and appends at most the event of its byte. -/
theorem frameStep_out (f : Frame) :
    ((frameStep f s).errCount = s.errCount + 1 ∧ (frameStep f s).out = s.out) ∨
    ((frameStep f s).errCount = s.errCount ∧
      ((frameStep f s).out = s.out ∨ (frameStep f s).out = s.out ++ pdiEventFrame (frameStep f s).data)) := by
  rcases frameStep_cases s f with ⟨_, e⟩ | ⟨even, closed, _⟩ | ⟨even, _, _, e⟩ | ⟨even, _, _, e⟩
  · rw [e]
    exact .inl ⟨rfl, rfl⟩
  all_goals refine .inr ⟨(frameStep_latches_of_even s even).2, ?_⟩
  · refine .inl ?_
    rw [frameStep_of_command s even closed, dispatchCount_writes]
  · have kept : (handleWriteData (frameByte f) (s.setFs .checkParity)).out = s.out := by
      rw [handleWriteData_writes]
      rfl
    rw [e, ← kept, finishFrame_data]
    exact finishFrame_out _
  · have kept : (handleRead (frameByte f) (s.setFs .checkParity)).out = s.out := by
      rw [handleRead_writes]
      rfl
    rw [e, ← kept, finishFrame_data]
    exact finishFrame_out _

/-- Whole frames after whole frames are whole frames (R204). -/
theorem framesFrom_append {owed : Nat} {before after : List Byte} (hb : framesFrom owed before = true)
    (ha : framesFrom 0 after = true) : framesFrom owed (before ++ after) = true := by
  induction before generalizing owed with
  | nil =>
    cases owed with
    | zero => exact ha
    | succ owed => cases hb
  | cons t rest ih =>
    cases owed with
    | succ owed => exact ih hb
    | zero =>
      rw [framesFrom] at hb
      rw [List.cons_append, framesFrom]
      split at hb
      · next isIdcode => rw [if_pos isIdcode, ih hb]
      · next notIdcode =>
        split at hb
        · next isPdi => rw [if_neg notIdcode, if_pos isPdi, ih hb]
        · cases hb

theorem framesFrom_idcodeFrame (v : Word) : framesFrom 0 (idcodeFrame v) = true := by
  simp [idcodeFrame, framesFrom]

theorem framesFrom_pdiEventFrame (b : Byte) : framesFrom 0 (pdiEventFrame b) = true := by
  simp [pdiEventFrame, framesFrom, show tagPdi ≠ tagIdcode by decide]

/-! ### The parts of the state, taken apart -/

/-- The IDCODE mailbox with its flag (R26, R27). -/
def idMail (s : State) := (s.idcode, s.idTgl)

/-- The PDI mailbox with its flag (R28, R29). -/
def pdiMail (s : State) := (s.pdiW, s.pdiR, s.pdiTgl)

section Parts

variable {s} {u : State}

theorem idMail_eq (h : idMail u = idMail s) : u.idcode = s.idcode ∧ u.idTgl = s.idTgl := by
  simpa only [idMail, Prod.mk.injEq] using h

theorem pdiMail_eq (h : pdiMail u = pdiMail s) : u.pdiW = s.pdiW ∧ u.pdiR = s.pdiR ∧ u.pdiTgl = s.pdiTgl := by
  simpa only [pdiMail, Prod.mk.injEq] using h

theorem mail_of_busPart (h : busPart u = busPart s) : idMail u = idMail s ∧ pdiMail u = pdiMail s := by
  simp only [busPart, Prod.mk.injEq] at h
  simp [idMail, pdiMail, h]

theorem processingPart_eq (h : processingPart u = processingPart s) :
    u.idSeen = s.idSeen ∧ u.pdiSeen = s.pdiSeen ∧ dissectorPart u = dissectorPart s ∧ u.out = s.out ∧
      u.errCount = s.errCount ∧ u.refused = s.refused := by
  simpa only [processingPart, Prod.mk.injEq] using h

end Parts

/-! ### What a bus step writes -/

/-- A sample taken outside UPDATE-DR writes no mailbox (R65, R113). -/
theorem exec_decodeTap_mail {t : TapState} {x : Sample} {u : State} (ht : t ≠ .updateDr)
    (h : exec (decodeTap t x) s = .next u) : idMail u = idMail s ∧ pdiMail u = pdiMail s := by
  rcases exec_decodeTap_cases s t x with ⟨_, _, _, _, _, e⟩ | ⟨_, e⟩ | ⟨_, e⟩ | ⟨isUpdate, _⟩ | ⟨_, e⟩ | ⟨_, e⟩
  case inr.inr.inr.inl => exact absurd isUpdate ht
  all_goals
    rw [e] at h
    cases h
    exact ⟨rfl, rfl⟩

/-- A sample taken in UPDATE-DR writes no mailbox, or one of them, whose flag it inverts (R65, R121 to R124). -/
theorem updateDr_mail (x : Sample) {u : State} (h : exec (decodeTap .updateDr x) s = .next u) :
    (idMail u = idMail s ∧ pdiMail u = pdiMail s) ∨
    (u.idTgl = !s.idTgl ∧ pdiMail u = pdiMail s) ∨
    (u.pdiTgl = !s.pdiTgl ∧ idMail u = idMail s) := by
  rw [decodeTap, exec_tapUpdateDr] at h
  cases h
  rcases updateData_cases s with ⟨_, e⟩ | ⟨_, _, e⟩ | ⟨_, _, e⟩ <;> rw [e]
  · exact .inr (.inl ⟨rfl, rfl⟩)
  · exact .inr (.inr ⟨rfl, rfl⟩)
  · exact .inl ⟨rfl, rfl⟩

/-! ### What a step leaves, turn by turn -/

/-- The bus agent's state and the parameters change on bus turns only (R231). -/
theorem stepped_busPart (h : ∀ x rest, s.schedule ≠ .bus x :: rest) : busPart (stepped s) = busPart s := by
  rcases step_cases s with
    ⟨_, e⟩ | ⟨x, rest, hs, _⟩ | ⟨_, _, _, e⟩ | ⟨_, _, _, _, e⟩ | ⟨_, _, e⟩ | ⟨_, _, e⟩
  · rw [e]
  · exact absurd hs (h x rest)
  · rw [e]
    rfl
  · rw [e, frameStep_busPart]
    rfl
  · rw [e]
    rfl
  · rw [e]
    rfl

theorem stepped_processingPart_of_bus {x : Sample} {rest : List Turn} (h : s.schedule = .bus x :: rest) :
    processingPart (stepped s) = processingPart s := by
  have run : exec (decodeTap s.tap x) (s.setSchedule rest) = .next (stepped s) := by
    rw [← step_of_bus s h, step_eq_stepped]
  exact exec_decodeTap_processingPart (s.setSchedule rest) run

/-- A bus turn writes no mailbox, or is taken in UPDATE-DR and writes one of them, whose flag it inverts (R65). -/
theorem stepped_mail_of_bus {x : Sample} {rest : List Turn} (h : s.schedule = .bus x :: rest) :
    (idMail (stepped s) = idMail s ∧ pdiMail (stepped s) = pdiMail s) ∨
    s.tap = .updateDr ∧
      (((stepped s).idTgl = !s.idTgl ∧ pdiMail (stepped s) = pdiMail s) ∨
       ((stepped s).pdiTgl = !s.pdiTgl ∧ idMail (stepped s) = idMail s)) := by
  have run : exec (decodeTap s.tap x) (s.setSchedule rest) = .next (stepped s) := by
    rw [← step_of_bus s h, step_eq_stepped]
  by_cases tap : s.tap = .updateDr
  · rw [tap] at run
    exact (updateDr_mail (s.setSchedule rest) x run).imp_right fun writes => ⟨tap, writes⟩
  · exact .inl (exec_decodeTap_mail (s.setSchedule rest) tap run)

theorem stepped_cfg : (stepped s).cfg = s.cfg := by
  rcases step_cases s with
    ⟨_, e⟩ | ⟨x, rest, _, run⟩ | ⟨_, _, _, e⟩ | ⟨_, _, _, _, e⟩ | ⟨_, _, e⟩ | ⟨_, _, e⟩
  · rw [e]
  · exact (exec_decodeTap_tap (s.setSchedule rest) run).2
  · rw [e]
    rfl
  · rw [e, frameStep_cfg]
    rfl
  · rw [e]
    rfl
  · rw [e]
    rfl

/-- A step takes the first turn, whatever it is (log entry 1). -/
theorem stepped_schedule : (stepped s).schedule = s.schedule.tail := by
  rcases step_cases s with
    ⟨h, e⟩ | ⟨x, rest, h, run⟩ | ⟨_, h, _, e⟩ | ⟨_, h, _, _, e⟩ | ⟨_, h | ⟨h, _⟩, e⟩ | ⟨_, h | ⟨h, _⟩, e⟩
  case inr.inl => rw [exec_decodeTap_schedule _ run, h]; rfl
  case inr.inr.inr.inl => rw [e, frameStep_schedule, h]; rfl
  all_goals
    rw [e, h]
    rfl

theorem steppedTimes_schedule (k : Nat) : (steppedTimes k s).schedule = s.schedule.drop k := by
  induction k generalizing s with
  | zero => rfl
  | succ k ih => rw [steppedTimes, ih, stepped_schedule, List.drop_tail]

/-- The dissector, the pulse count and `refused` change on accept_pdi turns only. -/
theorem stepped_dissector (h : ∀ rest, s.schedule ≠ .acceptPdi :: rest) :
    dissectorPart (stepped s) = dissectorPart s ∧ (stepped s).errCount = s.errCount ∧
      (stepped s).refused = s.refused := by
  rcases step_cases s with
    ⟨_, e⟩ | ⟨_, _, hs, _⟩ | ⟨_, _, _, e⟩ | ⟨rest, hs, _⟩ | ⟨_, _, e⟩ | ⟨_, _, e⟩
  case inr.inl =>
    obtain ⟨_, _, dissector, _, errCount, refused⟩ := processingPart_eq (stepped_processingPart_of_bus s hs)
    exact ⟨dissector, errCount, refused⟩
  case inr.inr.inr.inl => exact absurd hs (h rest)
  all_goals
    rw [e]
    exact ⟨rfl, rfl, rfl⟩

/-- Everything a step can do to the output and the pulse count (R204, R229). -/
theorem stepped_out :
    ((stepped s).out = s.out ∨ (stepped s).out = s.out ++ idcodeFrame s.idcode ∨
      (stepped s).out = s.out ++ pdiEventFrame (stepped s).data) ∧
    ((stepped s).errCount = s.errCount ∨ ((stepped s).errCount = s.errCount + 1 ∧ (stepped s).out = s.out)) := by
  rcases step_cases s with
    ⟨_, e⟩ | ⟨_, _, hs, _⟩ | ⟨_, _, _, e⟩ | ⟨rest, _, _, _, e⟩ | ⟨_, _, e⟩ | ⟨_, _, e⟩
  · rw [e]
    exact ⟨.inl rfl, .inl rfl⟩
  · obtain ⟨_, _, _, out, errCount, _⟩ := processingPart_eq (stepped_processingPart_of_bus s hs)
    exact ⟨.inl out, .inl errCount⟩
  · rw [e]
    exact ⟨.inr (.inl rfl), .inl rfl⟩
  · rw [e]
    rcases frameStep_out (s.seePdi.setSchedule rest) (activeFrame s) with
      ⟨pulse, nothing⟩ | ⟨noPulse, nothing | event⟩
    · exact ⟨.inl nothing, .inr ⟨pulse, nothing⟩⟩
    · exact ⟨.inl nothing, .inl noPulse⟩
    · exact ⟨.inr (.inr event), .inl noPulse⟩
  · rw [e]
    exact ⟨.inl rfl, .inl rfl⟩
  · rw [e]
    exact ⟨.inl rfl, .inl rfl⟩

/-! ### The literal SELECT-IR successor -/

/-- With the literal successor no entry of the table leads into the instruction register path (R104). -/
theorem nextTap_literal {c : Config} (hc : c.selIr0 = .captureDr) {t : TapState} (b : Bool)
    (off : t ≠ .captureIr ∧ t ≠ .shiftIr ∧ t ≠ .exit1Ir ∧ t ≠ .pauseIr ∧ t ≠ .exit2Ir ∧ t ≠ .updateIr) :
    nextTap c t b ≠ .captureIr ∧ nextTap c t b ≠ .shiftIr ∧ nextTap c t b ≠ .exit1Ir ∧
      nextTap c t b ≠ .pauseIr ∧ nextTap c t b ≠ .exit2Ir ∧ nextTap c t b ≠ .updateIr := by
  cases t <;> cases b <;> simp [nextTap, hc] at off ⊢

/-- A sample keeps the literal invariant: UPDATE-IR is not reached, and UPDATE-DR runs under IDCODE. -/
theorem exec_decodeTap_literal (hc : s.cfg.selIr0 = .captureDr) (inv : LiteralSelectIr s) {x : Sample} {u : State}
    (h : exec (decodeTap s.tap x) s = .next u) : LiteralSelectIr u := by
  obtain ⟨off, ir, frame⟩ := inv
  obtain ⟨_, notShiftIr, _, _, _, notUpdateIr⟩ := id off
  have tap : u.tap = nextTap s.cfg s.tap x.tms := (exec_decodeTap_tap s h).1
  have offIr := tap ▸ nextTap_literal hc x.tms off
  rcases exec_decodeTap_cases s s.tap x with
    ⟨_, _, _, _, _, e⟩ | ⟨_, e⟩ | ⟨_, e⟩ | ⟨_, e⟩ | ⟨isShiftIr, _⟩ | ⟨isUpdateIr, _⟩
  · rw [e] at h
    cases h
    exact ⟨offIr, ir, frame⟩
  · rw [e] at h
    cases h
    exact ⟨offIr, rfl, frame⟩
  · rw [e] at h
    cases h
    exact ⟨offIr, ir, frame⟩
  · rcases updateData_cases s with ⟨_, commits⟩ | ⟨notIdcode, _⟩ | ⟨notIdcode, _⟩
    · rw [e, commits] at h
      cases h
      exact ⟨offIr, ir, frame⟩
    · exact absurd ir notIdcode
    · exact absurd ir notIdcode
  · exact absurd isShiftIr notShiftIr
  · exact absurd isUpdateIr notUpdateIr

/-- A step keeps the literal invariant: no PDI frame is ever pending, so none is accepted. -/
theorem stepped_literal (hc : s.cfg.selIr0 = .captureDr) (inv : LiteralSelectIr s) :
    LiteralSelectIr (stepped s) ∧ dissectorPart (stepped s) = dissectorPart s := by
  obtain ⟨off, ir, tgl, seen, w, r⟩ := inv
  rcases step_cases s with
    ⟨_, e⟩ | ⟨x, rest, hs, run⟩ | ⟨_, _, _, e⟩ | ⟨_, _, pending, _⟩ | ⟨_, _, e⟩ | ⟨_, _, e⟩
  · rw [e]
    exact ⟨⟨off, ir, tgl, seen, w, r⟩, rfl⟩
  · obtain ⟨_, _, dissector, _⟩ := processingPart_eq (stepped_processingPart_of_bus s hs)
    exact ⟨exec_decodeTap_literal (s.setSchedule rest) hc ⟨off, ir, tgl, seen, w, r⟩ run, dissector⟩
  · rw [e]
    exact ⟨⟨off, ir, tgl, seen, w, r⟩, rfl⟩
  · simp [State.pdiPending, tgl, seen] at pending
  · rw [e]
    exact ⟨⟨off, ir, tgl, seen, w, r⟩, rfl⟩
  · rw [e]
    exact ⟨⟨off, ir, tgl, tgl, w, r⟩, rfl⟩

end Sys2Proof.Machine

namespace Sys2Proof.Proofs

open Sys2Proof.Machine Sys2Proof.Safety

/-- Settles O14: samples stay off the instruction register path, and no accept_pdi turn finds a frame. -/
theorem literalSelectIrIsKept : Obligations.LiteralSelectIrIsKept := by
  intro s t hc inv h
  rw [← stepped_of_step s h]
  exact ⟨stepped_cfg s, stepped_literal s hc inv⟩

/-- Settles O41: what a step appends is nothing or one whole frame. -/
theorem outputStaysFramed : Obligations.OutputStaysFramed := by
  intro s t framed h
  rw [← stepped_of_step s h]
  rcases (stepped_out s).1 with e | e | e <;> rw [OutFramed, e]
  · exact framed
  · exact framesFrom_append framed (framesFrom_idcodeFrame _)
  · exact framesFrom_append framed (framesFrom_pdiEventFrame _)

/-- Settles O43, turn by turn in `stepped_out`. -/
theorem stepAppendsAtMostOneFrame : Obligations.StepAppendsAtMostOneFrame := by
  intro s t h
  rw [← stepped_of_step s h]
  exact stepped_out s

/-- Settles O12: only a bus turn writes the bus agent's state, and only its UPDATE-DR a mailbox. -/
theorem onlyUpdateDrWritesMailboxes : Obligations.OnlyUpdateDrWritesMailboxes := by
  intro s t h
  rw [← stepped_of_step s h]
  by_cases bus : ∃ x rest, s.schedule = .bus x :: rest
  · obtain ⟨x, rest, hs⟩ := bus
    rcases stepped_mail_of_bus s hs with same | ⟨tap, writes⟩
    · exact .inl same
    · exact .inr ⟨x, rest, hs, tap, writes⟩
  · exact .inl (mail_of_busPart (stepped_busPart s fun x rest hs => bus ⟨x, rest, hs⟩))

/-- Settles O44: a run of the core is that many steps, and each takes one turn. -/
theorem noRunStops : Obligations.NoRunStops := by
  intro k s
  exact ⟨steppedTimes k s, core_run_eq_steppedTimes s k, steppedTimes_schedule s k⟩

/-- Settles O45: each agent's part is left on the other's turns. -/
theorem agentsWriteTheirOwnState : Obligations.AgentsWriteTheirOwnState := by
  intro s t h
  rw [← stepped_of_step s h]
  exact ⟨stepped_cfg s, fun ⟨_, _, hs⟩ => stepped_processingPart_of_bus s hs, stepped_busPart s⟩

/-- Settles O59: `stepped_dissector`, every turn but accept_pdi. -/
theorem openTransactionsPersist : Obligations.OpenTransactionsPersist := by
  intro s t h
  rw [← stepped_of_step s h]
  exact stepped_dissector s

end Sys2Proof.Proofs
end

section
/-!
PROOFS. 41_pdi_frame.md and 42_pdi_count.md: the exact effect of every frame and of every command byte.

A good frame with a transaction open and `upd` at rest is a write byte, a captured write byte, a read byte, or a read
with no byte due; each is one update of the state (`frameStep_of_write` to `frameStep_of_underflow`).
-/

namespace Sys2Proof.Machine

open Sys2Proof.Safety

variable (s : State)

/-! ### One data byte: HANDLE-WRITE, HANDLE-READ and SEND-DATA -/

theorem handleWriteData_of_noCapture (v : FrameState) (b : Byte) (h : s.cs ≠ .captureRepeat) :
    handleWriteData b (s.setFs v) = { s with fs := .handleWrite, data := b, wcnt := s.wcnt - 1 } := by
  rcases handleWriteData_cases (s.setFs v) b with ⟨_, e⟩ | ⟨capture, _⟩
  · exact e
  · exact absurd capture h

/-- In a capture the byte also enters `acc`, and the last one sets `rep` from it (R180, R181). -/
theorem handleWriteData_of_capture (v : FrameState) (b : Byte) (h : s.cs = .captureRepeat) :
    handleWriteData b (s.setFs v) = { s with
      fs := .handleWrite, data := b, wcnt := s.wcnt - 1, acc := s.acc.extractLsb' 0 24 ++ b,
      rep := if s.wcnt - 1 = 0 then
          BitVec.ofNat 32 ((s.acc.extractLsb' 0 24 ++ b).toNat % 2 ^ (8 * repeatWidth s.arg))
        else s.rep,
      cs := if s.wcnt - 1 = 0 then .idle else .captureRepeat } := by
  rcases handleWriteData_cases (s.setFs v) b with ⟨noCapture, _⟩ | ⟨_, e⟩
  · exact absurd h noCapture
  rw [e]
  rcases repeatCapture_cases { s with fs := .handleWrite, data := b, wcnt := s.wcnt - 1 } b with
    ⟨more, e'⟩ | ⟨last, e'⟩
  · rw [if_neg more, if_neg more, ← h]
    exact e'
  · rw [if_pos last, if_pos last]
    exact e'

theorem handleRead_of_due (v : FrameState) (b : Byte) (h : 0 < s.rcnt) :
    handleRead b (s.setFs v) = { s with fs := .handleRead, data := b, rcnt := s.rcnt - 1 } := by
  rcases handleRead_cases (s.setFs v) b with ⟨_, e⟩ | ⟨none, _⟩
  · exact e
  · exact absurd none (Nat.ne_of_gt h)

theorem handleRead_of_underflow (v : FrameState) (b : Byte) (h : s.rcnt = 0) :
    handleRead b (s.setFs v) = { s with fs := .handleRead, data := b, refused := true } := by
  rcases handleRead_cases (s.setFs v) b with ⟨due, _⟩ | ⟨_, e⟩
  · exact absurd h due
  · exact e

/-- SEND-DATA on a data byte: sent, and the transaction closed where both counts are now 0 (R147). -/
theorem finishFrame_of_data (h : s.upd = false) :
    finishFrame s = { s with
      fs := .idle, out := s.out ++ pdiEventFrame s.data,
      opcode := if s.wcnt = 0 ∧ s.rcnt = 0 then opIdle else s.opcode } := by
  rcases finishFrame_cases s with ⟨isCommand, _⟩ | ⟨_, w, r, e⟩ | ⟨_, owed, e⟩
  · exact absurd (h.symm.trans isCommand) (by decide)
  · rw [e, if_pos ⟨w, r⟩]
  · rw [e, if_neg owed]

/-! ### One data byte: the whole frame -/

section DataByte

variable {f : Frame} (even : xorReduce f = false) (opened : s.opcode ≠ opIdle) (sent : s.upd = false)
include even opened

theorem frameStep_of_writeDue (due : 0 < s.wcnt) :
    frameStep f s = finishFrame (handleWriteData (frameByte f) (s.setFs .checkParity)) := by
  rcases frameStep_cases s f with ⟨odd, _⟩ | ⟨_, closed, _⟩ | ⟨_, _, _, e⟩ | ⟨_, _, none, _⟩
  · exact absurd (odd.symm.trans even) (by decide)
  · exact absurd closed opened
  · exact e
  · exact absurd none (Nat.ne_of_gt due)

theorem frameStep_of_noWriteDue (noneDue : s.wcnt = 0) :
    frameStep f s = finishFrame (handleRead (frameByte f) (s.setFs .checkParity)) := by
  rcases frameStep_cases s f with ⟨odd, _⟩ | ⟨_, closed, _⟩ | ⟨_, _, due, _⟩ | ⟨_, _, _, e⟩
  · exact absurd (odd.symm.trans even) (by decide)
  · exact absurd closed opened
  · exact absurd noneDue (Nat.ne_of_gt due)
  · exact e

include sent

/-- A write byte outside a REPEAT capture (R144, R147). -/
theorem frameStep_of_write (due : 0 < s.wcnt) (noCapture : s.cs ≠ .captureRepeat) :
    frameStep f s = { s with
      fs := .idle, data := frameByte f, wcnt := s.wcnt - 1, out := s.out ++ pdiEventFrame (frameByte f),
      opcode := if s.wcnt = 1 ∧ s.rcnt = 0 then opIdle else s.opcode } := by
  have last : s.wcnt - 1 = 0 ↔ s.wcnt = 1 := by omega
  rw [frameStep_of_writeDue s even opened due, handleWriteData_of_noCapture s _ _ noCapture, finishFrame_of_data]
  · simp only [last]
  · exact sent

/-- A write byte inside a REPEAT capture (R145, R180, R181). -/
theorem frameStep_of_capture (due : 0 < s.wcnt) (capture : s.cs = .captureRepeat) :
    frameStep f s = { s with
      fs := .idle, data := frameByte f, wcnt := s.wcnt - 1, out := s.out ++ pdiEventFrame (frameByte f),
      opcode := if s.wcnt = 1 ∧ s.rcnt = 0 then opIdle else s.opcode,
      acc := s.acc.extractLsb' 0 24 ++ frameByte f,
      rep := if s.wcnt = 1 then
          BitVec.ofNat 32 ((s.acc.extractLsb' 0 24 ++ frameByte f).toNat % 2 ^ (8 * repeatWidth s.arg))
        else s.rep,
      cs := if s.wcnt = 1 then .idle else .captureRepeat } := by
  have last : s.wcnt - 1 = 0 ↔ s.wcnt = 1 := by omega
  rw [frameStep_of_writeDue s even opened due, handleWriteData_of_capture s _ _ capture, finishFrame_of_data]
  · simp only [last]
  · exact sent

/-- A read byte (R146, R147). -/
theorem frameStep_of_read (noneDue : s.wcnt = 0) (due : 0 < s.rcnt) :
    frameStep f s = { s with
      fs := .idle, data := frameByte f, rcnt := s.rcnt - 1, out := s.out ++ pdiEventFrame (frameByte f),
      opcode := if s.rcnt = 1 then opIdle else s.opcode } := by
  have last : s.rcnt - 1 = 0 ↔ s.rcnt = 1 := by omega
  rw [frameStep_of_noWriteDue s even opened noneDue, handleRead_of_due s _ _ due, finishFrame_of_data]
  · simp only [last, noneDue, true_and]
  · exact sent

/-- A read with no byte due (R148). -/
theorem frameStep_of_underflow (noWrite : s.wcnt = 0) (noRead : s.rcnt = 0) :
    frameStep f s = { s with
      fs := .idle, data := frameByte f, out := s.out ++ pdiEventFrame (frameByte f), opcode := opIdle,
      refused := true } := by
  rw [frameStep_of_noWriteDue s even opened noWrite, handleRead_of_underflow s _ _ noRead, finishFrame_of_data]
  · simp only [noWrite, noRead, and_self, if_true]
  · exact sent

end DataByte

/-! ### One command byte -/

/-- The state in which a command's count operation runs: the byte and its fields latched (R143, R170). -/
def commandBegun (nibble : Nibble) (aa bb : SizeField) (s : State) : State :=
  { s with
    fs := .handleWrite, data := commandByte nibble aa bb, opcode := nibble, upd := true, cs := .decode,
    arg := argOf aa bb }

theorem commandStep_eq_begun {nibble : Nibble} {aa bb : SizeField} {count : State → State}
    (keeps : ∀ t, (count t).upd = t.upd) :
    commandStep nibble aa bb count s = { count (commandBegun nibble aa bb s) with fs := .idle, upd := false } := by
  rw [commandStep_eq s nibble aa bb count keeps, opcodeField_commandByte]
  rfl

/-- A good frame with no transaction open is the command step of its byte. -/
theorem frameStep_eq_begun {f : Frame} (even : xorReduce f = false) (closed : s.opcode = opIdle) :
    frameStep f s =
      { dispatchCount (opcodeField (frameByte f)) (sizeFieldA (frameByte f)) (sizeFieldB (frameByte f))
          (commandBegun (opcodeField (frameByte f)) (sizeFieldA (frameByte f)) (sizeFieldB (frameByte f)) s) with
        fs := .idle, upd := false } := by
  rw [frameStep_of_command s even closed, commandBegun, commandByte_fields]

theorem exec_decodeCommand {f : Frame} (even : xorReduce f = false) (closed : s.opcode = opIdle) :
    exec (decodeCommand (frameByte f)) s = .next (frameStep f s) := by
  rcases frameStep_cases s f with ⟨odd, _⟩ | ⟨_, _, e⟩ | ⟨_, opened, _⟩ | ⟨_, opened, _⟩
  · exact absurd (odd.symm.trans even) (by decide)
  · exact e
  · exact absurd closed opened
  · exact absurd closed opened

theorem countLd_eq (bb : SizeField) :
    countLd bb s = { s with wcnt := 0, rcnt := (s.rep.toNat + 1) * (bb.toNat + 1), rep := 0, cs := .idle } := rfl

theorem countSt_eq (bb : SizeField) :
    countSt bb s = { s with wcnt := (s.rep.toNat + 1) * (bb.toNat + 1), rcnt := 0, rep := 0, cs := .idle } := rfl

theorem countIdle_eq : countIdle s = { s with cs := .idle } := rfl

theorem countReserved_eq : countReserved s = { s with cs := .idle, refused := true } := rfl

theorem commandStep_reserved (nibble : Nibble) (aa bb : SizeField) :
    commandStep nibble aa bb countReserved s = { commandLatched nibble aa bb s with refused := true } := by
  rw [commandStep_eq_begun s (count := countReserved) fun _ => rfl, countReserved_eq]
  rfl

end Sys2Proof.Machine

namespace Sys2Proof.Proofs

open Sys2Proof.Machine Sys2Proof.Safety

/-- Settles O23: `frameStep_of_odd`. -/
theorem oddFrameTakesParityError : Obligations.OddFrameTakesParityError := by
  intro s p d odd
  rw [exec_pdiFrame, frameStep_of_odd s ((xorReduce_iff_odd _).2 odd)]
  rfl

/-- Settles O25: `frameStep_of_write`. -/
theorem writeByteIsCountedAndEmitted : Obligations.WriteByteIsCountedAndEmitted := by
  intro s p d even opened due sent noCapture
  rw [exec_pdiFrame,
    frameStep_of_write s ((xorReduce_eq_false_iff_even _).2 even) opened sent due noCapture, frameByte_frameOf]
  rfl

/-- Settles O26: `frameStep_of_capture`, with the accumulator and the width read as numbers. -/
theorem repeatPayloadByteIsCaptured : Obligations.RepeatPayloadByteIsCaptured := by
  intro s p d even opened due sent capture
  have wraps : (2 : Nat) ^ (8 * repeatWidth s.arg) ∣ 2 ^ 32 :=
    Nat.pow_dvd_pow 2 (by have := (repeatWidth_le s.arg).2; omega)
  have low : (BitVec.ofNat 32 (s.acc.toNat * 256 + d.toNat)).toNat % 2 ^ (8 * repeatWidth s.arg) =
      (s.acc.toNat * 256 + d.toNat) % 2 ^ (8 * repeatWidth s.arg) := by
    rw [BitVec.toNat_ofNat, Nat.mod_mod_of_dvd _ wraps]
  rw [exec_pdiFrame,
    frameStep_of_capture s ((xorReduce_eq_false_iff_even _).2 even) opened sent due capture, frameByte_frameOf,
    accumulate_eq_ofNat, low, repeatWidth_eq]
  rfl

/-- Settles O27: `frameStep_of_read`. -/
theorem readByteIsCountedAndEmitted : Obligations.ReadByteIsCountedAndEmitted := by
  intro s p d even opened noneDue due sent
  rw [exec_pdiFrame,
    frameStep_of_read s ((xorReduce_eq_false_iff_even _).2 even) opened sent noneDue due, frameByte_frameOf]
  rfl

/-- Settles O28: `frameStep_of_underflow`. -/
theorem readUnderflowIsRefusedAndContinues : Obligations.ReadUnderflowIsRefusedAndContinues := by
  intro s p d even opened noWrite noRead sent
  rw [exec_pdiFrame,
    frameStep_of_underflow s ((xorReduce_eq_false_iff_even _).2 even) opened sent noWrite noRead, frameByte_frameOf]
  rfl

/-- Settles O29: a good frame with no transaction open is the command step that `exec` of its byte's row is. -/
theorem frameWithoutTransactionRunsItsCommand : Obligations.FrameWithoutTransactionRunsItsCommand := by
  intro s p d even closed
  have command := exec_decodeCommand s ((xorReduce_eq_false_iff_even _).2 even) closed
  rw [frameByte_frameOf] at command
  rw [exec_pdiFrame, command]

/-- Settles O31: LD and ST are the two count operations that read and zero `rep`. -/
theorem indirectCommandsUseTheRepeatCount : Obligations.IndirectCommandsUseTheRepeatCount := by
  intro s aa bb
  rw [exec_pdiLd, exec_pdiSt, commandStep_eq_begun s (count := countLd bb) fun _ => rfl,
    commandStep_eq_begun s (count := countSt bb) fun _ => rfl, countLd_eq, countSt_eq]
  exact ⟨rfl, rfl⟩

/-- Settles O34: the count operation of the IDLE nibble writes `cs` only. -/
theorem idleNibbleIsConsumed : Obligations.IdleNibbleIsConsumed := by
  intro s aa bb
  rw [exec_pdiIdle, commandStep_eq_begun s (count := countIdle) fun _ => rfl, countIdle_eq]
  rfl

/-- Settles O35: the seven reserved rows share one count operation. -/
theorem reservedNibblesAreRefusedAndContinue : Obligations.ReservedNibblesAreRefusedAndContinue := by
  intro s aa bb
  simp only [exec_pdiReserved8, exec_pdiReserved9, exec_pdiReservedA, exec_pdiReservedB, exec_pdiReservedC,
    exec_pdiReservedD, exec_pdiReservedE, commandStep_reserved, and_self]

end Sys2Proof.Proofs
end

section
/-!
PROOFS. The dissector's invariant (R152) and the bounds of the count machine (R38, R39, R45).

A turn either accepts a PDI frame or leaves the dissector alone (`stepped_accepts_or_keeps`), so each invariant is a
fact about one frame. Under the invariant a frame is a bad frame, a command byte (`frameStep_command_cases`) or a byte
that some counter owes (`frameStep_dataByte`).
-/

namespace Sys2Proof.Machine

open Sys2Proof.Safety

variable (s : State)

/-! ### The one turn that reaches the dissector -/

theorem stepped_of_acceptPdi {rest : List Turn} (h : s.schedule = .acceptPdi :: rest) (hp : s.pdiPending = true)
    (hf : s.fs = .idle) : stepped s = frameStep (activeFrame s) (s.seePdi.setSchedule rest) :=
  stepped_of_step s ((step_of_acceptPdi s h hp hf).trans (exec_pdiInstr s rest))

/-- Whether the next step accepts a PDI frame (R66, R149). -/
def AcceptsPdi (s : State) : Prop :=
  (∃ rest, s.schedule = .acceptPdi :: rest) ∧ s.pdiPending = true ∧ s.fs = .idle

theorem stepped_accepts_or_keeps :
    (AcceptsPdi s ∧ ∃ rest, stepped s = frameStep (activeFrame s) (s.seePdi.setSchedule rest)) ∨
    (¬ AcceptsPdi s ∧ dissectorPart (stepped s) = dissectorPart s ∧ (stepped s).refused = s.refused) := by
  by_cases accepts : AcceptsPdi s
  · obtain ⟨⟨rest, turn⟩, pending, fs⟩ := id accepts
    exact .inl ⟨accepts, rest, stepped_of_acceptPdi s turn pending fs⟩
  refine .inr ⟨accepts, ?_⟩
  by_cases turn : ∃ rest, s.schedule = .acceptPdi :: rest
  · obtain ⟨rest, turn⟩ := turn
    have nothing : turnInstr .acceptPdi s = none := if_neg fun ⟨pending, fs⟩ => accepts ⟨⟨rest, turn⟩, pending, fs⟩
    rw [stepped_of_step s (step_of_nothing s turn nothing)]
    exact ⟨rfl, rfl⟩
  · obtain ⟨same, _, refused⟩ := stepped_dissector s fun rest h => turn ⟨rest, h⟩
    exact ⟨same, refused⟩

theorem activeFrame_of_closed (closed : s.opcode = opIdle) : activeFrame s = s.pdiW :=
  if_pos ((hostToTarget_iff s).2 (.inl closed))

end Sys2Proof.Machine

namespace Sys2Proof.Safety

open Sys2Proof.Machine

/-! ### The invariant, established -/

theorem Dissector.congr {s t : State} (h : dissectorPart t = dissectorPart s) (inv : Dissector s) : Dissector t := by
  obtain ⟨fs, upd, counts, capture, owed, rest⟩ := inv
  simp only [dissectorPart, Prod.mk.injEq] at h
  obtain ⟨hop, hfs, hcs, _, _, hupd, hw, hr, _, _⟩ := h
  refine ⟨hfs ▸ fs, hupd ▸ upd, ?_, ?_, ?_, ?_⟩
  · rwa [hop, hw, hr]
  · rwa [hop, hcs]
  · rwa [hop, hw, hr]
  · rwa [hcs]

theorem Dissector.of_closed {s : State} (fs : s.fs = .idle) (upd : s.upd = false) (opcode : s.opcode = opIdle)
    (cs : s.cs = .idle) (w : s.wcnt = 0) (r : s.rcnt = 0) : Dissector s := by
  refine ⟨fs, upd, .inl ⟨opcode, w, r⟩, ?_, ?_, .inl cs⟩
  · simp [cs, opcode, opIdle, opRepeat]
  · simp [opcode, opIdle, opRepeat]

theorem Dissector.of_open {s : State} {n : Nibble} (fs : s.fs = .idle) (upd : s.upd = false) (opcode : s.opcode = n)
    (active : n.toNat < 8) (noRepeat : n ≠ opRepeat) (cs : s.cs = .idle) (owed : 1 ≤ s.wcnt + s.rcnt) :
    Dissector s := by
  subst opcode
  refine ⟨fs, upd, .inr ⟨active, owed⟩, ?_, fun h => absurd h noRepeat, .inl cs⟩
  simp [cs, noRepeat]

theorem Dissector.of_capture {s : State} (fs : s.fs = .idle) (upd : s.upd = false) (opcode : s.opcode = opRepeat)
    (cs : s.cs = .captureRepeat) (w : 1 ≤ s.wcnt) (r : s.rcnt = 0) : Dissector s := by
  refine ⟨fs, upd, .inr ⟨?_, by omega⟩, ?_, fun _ => ⟨w, r⟩, .inr cs⟩
  · simp [opcode, opRepeat]
  · simp [cs, opcode]

/-! ### The invariant, used -/

section Invariant

variable {s : State} (inv : Dissector s)
include inv

theorem Dissector.closed_of_counts (w : s.wcnt = 0) (r : s.rcnt = 0) : s.opcode = opIdle := by
  rcases inv.closedOrOpen with ⟨closed, _⟩ | ⟨_, owed⟩
  · exact closed
  · omega

theorem Dissector.counts_of_closed (closed : s.opcode = opIdle) : s.wcnt = 0 ∧ s.rcnt = 0 := by
  rcases inv.closedOrOpen with ⟨_, counts⟩ | ⟨active, _⟩
  · exact counts
  · rw [closed] at active
    exact absurd active (by decide)

/-- With a transaction open some byte is owed. -/
theorem Dissector.owed (opened : s.opcode ≠ opIdle) : s.opcode.toNat < 8 ∧ 1 ≤ s.wcnt + s.rcnt := by
  rcases inv.closedOrOpen with ⟨closed, _⟩ | active
  · exact absurd closed opened
  · exact active

theorem Dissector.cs_idle (noRepeat : s.opcode ≠ opRepeat) : s.cs = .idle :=
  inv.csRest.resolve_right fun capture => noRepeat (inv.captureIff.1 capture)

theorem Dissector.seen (rest : List Turn) : Dissector (s.seePdi.setSchedule rest) :=
  Dissector.congr (s := s) rfl inv

end Invariant

end Sys2Proof.Safety

namespace Sys2Proof.Machine

open Sys2Proof.Safety

variable (s : State)

theorem byteSize_pos (field : SizeField) : 0 < byteSize field := (byteSize_le field).1

theorem repeatedSize_pos (bb : SizeField) : 0 < repeatedSize s bb :=
  Nat.mul_pos (Nat.succ_pos _) (byteSize_pos bb)

/-! ### One frame under the invariant -/

/-- A nibble that no command is defined for (R183). -/
def ReservedNibble (n : Nibble) : Prop := 0x8 ≤ n.toNat ∧ n.toNat ≤ 0xE

/-- A command byte is refused where its nibble is reserved, and otherwise leaves the invariant. -/
theorem frameStep_command_cases {f : Frame} (inv : Dissector s) (even : xorReduce f = false)
    (closed : s.opcode = opIdle) :
    (ReservedNibble (opcodeField (frameByte f)) ∧ (frameStep f s).refused = true) ∨
    (¬ ReservedNibble (opcodeField (frameByte f)) ∧ (frameStep f s).refused = s.refused ∧
      Dissector (frameStep f s)) := by
  obtain ⟨noWrite, noRead⟩ := inv.counts_of_closed closed
  rw [frameStep_eq_begun s even closed]
  generalize opcodeField (frameByte f) = n
  generalize sizeFieldA (frameByte f) = aa
  generalize sizeFieldB (frameByte f) = bb
  have sizeA := byteSize_pos aa
  have sizeB := byteSize_pos bb
  have sizes := repeatedSize_pos (commandBegun n aa bb s) bb
  rcases dispatchCount_cases (commandBegun n aa bb s) n aa bb with
    ⟨hn, e⟩ | ⟨hn, e⟩ | ⟨hn, e⟩ | ⟨hn, e⟩ | ⟨hn, e⟩ | ⟨hn, e⟩ | ⟨hn, e⟩ | ⟨hn, e⟩ | ⟨hn, e⟩ | ⟨lo, hi, e⟩ <;> rw [e]
  case inr.inr.inr.inr.inr.inr.inr.inr.inr => exact .inl ⟨⟨lo, hi⟩, rfl⟩
  all_goals
    subst hn
    refine .inr ⟨by simp [ReservedNibble], rfl, ?_⟩
  · exact .of_open (n := 0x0) rfl rfl rfl (by decide) (by decide) rfl (Nat.le_add_right_of_le sizeA)
  · exact .of_open (n := 0x1) rfl rfl rfl (by decide) (by decide) rfl (Nat.le_add_left_of_le sizes)
  · exact .of_open (n := 0x2) rfl rfl rfl (by decide) (by decide) rfl
      (Nat.le_add_right_of_le (Nat.le_add_right_of_le sizeA))
  · exact .of_open (n := 0x3) rfl rfl rfl (by decide) (by decide) rfl (Nat.le_add_right_of_le sizes)
  · exact .of_open (n := 0x4) rfl rfl rfl (by decide) (by decide) rfl (le_refl 1)
  · exact .of_capture rfl rfl rfl rfl sizeB rfl
  · exact .of_open (n := 0x6) rfl rfl rfl (by decide) (by decide) rfl (le_refl 1)
  · exact .of_open (n := 0x7) rfl rfl rfl (by decide) (by decide) rfl (by decide : 1 ≤ 8 + 0)
  · exact .of_closed rfl rfl rfl rfl noWrite noRead

/-- What a data byte does to the counts and the output, and that it leaves the invariant. -/
structure DataByte (f : Frame) (s t : State) : Prop where
  invariant : Dissector t
  wcnt : t.wcnt = s.wcnt - 1
  rcnt : t.rcnt = if 0 < s.wcnt then s.rcnt else s.rcnt - 1
  out : t.out = s.out ++ pdiEventFrame (frameByte f)
  errCount : t.errCount = s.errCount
  refused : t.refused = s.refused

/-- With a transaction open a good frame is a byte that some counter owes. -/
theorem frameStep_dataByte {f : Frame} (inv : Dissector s) (even : xorReduce f = false) (opened : s.opcode ≠ opIdle) :
    DataByte f s (frameStep f s) := by
  obtain ⟨active, owed⟩ := inv.owed opened
  have upd := inv.updClear
  by_cases due : 0 < s.wcnt
  · by_cases capture : s.cs = .captureRepeat
    · have opcode := inv.captureIff.1 capture
      have noRead := (inv.captureCounts opcode).2
      rw [frameStep_of_capture s even opened upd due capture]
      refine ⟨?_, rfl, (if_pos due).symm, rfl, rfl, rfl⟩
      by_cases last : s.wcnt = 1
      · refine .of_closed rfl upd ?_ ?_ ?_ noRead <;> simp [last, noRead]
      · refine .of_capture rfl upd ?_ ?_ ?_ noRead
        · simp [last, opcode]
        · simp [last]
        · show 1 ≤ s.wcnt - 1
          omega
    · have noRepeat : s.opcode ≠ opRepeat := fun h => capture (inv.captureIff.2 h)
      rw [frameStep_of_write s even opened upd due capture]
      refine ⟨?_, rfl, (if_pos due).symm, rfl, rfl, rfl⟩
      by_cases last : s.wcnt = 1 ∧ s.rcnt = 0
      · refine .of_closed rfl upd (if_pos last) (inv.cs_idle noRepeat) ?_ last.2
        simp [last.1]
      · refine .of_open rfl upd (if_neg last) active noRepeat (inv.cs_idle noRepeat) ?_
        show 1 ≤ s.wcnt - 1 + s.rcnt
        omega
  · have noWrite : s.wcnt = 0 := by omega
    have noRepeat : s.opcode ≠ opRepeat := fun h => due (inv.captureCounts h).1
    rw [frameStep_of_read s even opened upd noWrite (by omega)]
    refine ⟨?_, by simp [noWrite], (if_neg due).symm, rfl, rfl, rfl⟩
    by_cases last : s.rcnt = 1
    · refine .of_closed rfl upd (if_pos last) (inv.cs_idle noRepeat) noWrite ?_
      simp [last]
    · refine .of_open rfl upd (if_neg last) active noRepeat (inv.cs_idle noRepeat) ?_
      show 1 ≤ s.wcnt + (s.rcnt - 1)
      omega

theorem frameStep_of_odd_dissector {f : Frame} (inv : Dissector s) (odd : xorReduce f = true) :
    Dissector (frameStep f s) := by
  rw [frameStep_of_odd s odd]
  exact .of_closed rfl inv.updClear rfl rfl rfl rfl

/-- Under the invariant a frame sets `refused` exactly where it is a good command byte with a reserved nibble. -/
theorem frameStep_refused_iff {f : Frame} (inv : Dissector s) (safe : s.refused = false) :
    (frameStep f s).refused = true ↔
      xorReduce f = false ∧ s.opcode = opIdle ∧ ReservedNibble (opcodeField (frameByte f)) := by
  cases parity : xorReduce f
  · by_cases closed : s.opcode = opIdle
    · rcases frameStep_command_cases s inv parity closed with ⟨reserved, refused⟩ | ⟨defined, kept, _⟩
      · simp [refused, closed, reserved]
      · simp [kept, safe, defined]
    · simp [(frameStep_dataByte s inv parity closed).refused, safe, closed]
  · simp [frameStep_of_odd s parity, safe]

theorem frameStep_dissector {f : Frame} (inv : Dissector s) (safe : (frameStep f s).refused = false) :
    Dissector (frameStep f s) := by
  cases parity : xorReduce f
  · by_cases closed : s.opcode = opIdle
    · rcases frameStep_command_cases s inv parity closed with ⟨_, refused⟩ | ⟨_, _, kept⟩
      · exact absurd (refused.symm.trans safe) (by decide)
      · exact kept
    · exact (frameStep_dataByte s inv parity closed).invariant
  · exact frameStep_of_odd_dissector s inv parity

/-! ### One frame from any state: `refused`, the counts and `rep` -/

theorem dispatchCount_refused {nibble : Nibble} {aa bb : SizeField} (h : s.refused = true) :
    (dispatchCount nibble aa bb s).refused = true := by
  rcases dispatchCount_cases s nibble aa bb with
    ⟨_, e⟩ | ⟨_, e⟩ | ⟨_, e⟩ | ⟨_, e⟩ | ⟨_, e⟩ | ⟨_, e⟩ | ⟨_, e⟩ | ⟨_, e⟩ | ⟨_, e⟩ | ⟨_, _, e⟩ <;> rw [e]
  all_goals exact h

theorem handleRead_refused {b : Byte} (h : s.refused = true) : (handleRead b s).refused = true := by
  rcases handleRead_cases s b with ⟨_, e⟩ | ⟨_, e⟩ <;> rw [e]
  exact h

/-- `refused` is sticky (R45). -/
theorem frameStep_refused_of_refused (f : Frame) (h : s.refused = true) : (frameStep f s).refused = true := by
  rcases frameStep_cases s f with ⟨_, e⟩ | ⟨even, closed, _⟩ | ⟨_, _, _, e⟩ | ⟨_, _, _, e⟩
  · rw [e]
    exact h
  · rw [frameStep_eq_begun s even closed]
    exact dispatchCount_refused _ h
  · rw [e, finishFrame_writes, handleWriteData_writes]
    exact h
  · rw [e, finishFrame_writes]
    exact handleRead_refused (s.setFs .checkParity) h

theorem repeatedSize_le (bb : SizeField) : repeatedSize s bb ≤ 2 ^ 34 :=
  calc (s.rep.toNat + 1) * byteSize bb ≤ 2 ^ 32 * 4 := Nat.mul_le_mul s.rep.isLt (byteSize_le bb).2
    _ = 2 ^ 34 := rfl

theorem dispatchCount_countsBounded (nibble : Nibble) (aa bb : SizeField) (h : CountsBounded s) :
    CountsBounded (dispatchCount nibble aa bb s) := by
  have sizeA := (byteSize_le aa).2
  have sizeB := (byteSize_le bb).2
  have sizes := repeatedSize_le s bb
  rcases dispatchCount_cases s nibble aa bb with
    ⟨_, e⟩ | ⟨_, e⟩ | ⟨_, e⟩ | ⟨_, e⟩ | ⟨_, e⟩ | ⟨_, e⟩ | ⟨_, e⟩ | ⟨_, e⟩ | ⟨_, e⟩ | ⟨_, _, e⟩ <;> rw [e]
  case inr.inr.inr.inr.inr.inr.inr.inr.inl | inr.inr.inr.inr.inr.inr.inr.inr.inr => exact h
  all_goals
    constructor <;> dsimp only <;> omega

theorem frameStep_countsBounded (f : Frame) (h : CountsBounded s) : CountsBounded (frameStep f s) := by
  obtain ⟨hw, hr⟩ := id h
  rcases frameStep_cases s f with ⟨_, e⟩ | ⟨even, closed, _⟩ | ⟨_, _, _, e⟩ | ⟨_, _, _, e⟩
  · rw [e]
    exact ⟨Nat.zero_le _, Nat.zero_le _⟩
  · rw [frameStep_eq_begun s even closed]
    exact dispatchCount_countsBounded _ _ _ _ h
  · rw [e, finishFrame_writes, handleWriteData_writes]
    exact ⟨(Nat.sub_le _ _).trans hw, hr⟩
  · rw [e, finishFrame_writes, handleRead_writes]
    exact ⟨hw, (Nat.sub_le _ _).trans hr⟩

/-- Only LD and ST write `rep` in the count machine, and they zero it. -/
theorem dispatchCount_rep (nibble : Nibble) (aa bb : SizeField) :
    (dispatchCount nibble aa bb s).rep = s.rep ∨
    ((nibble = 0x1 ∨ nibble = 0x3) ∧ (dispatchCount nibble aa bb s).rep = 0) := by
  rcases dispatchCount_cases s nibble aa bb with
    ⟨_, e⟩ | ⟨ld, e⟩ | ⟨_, e⟩ | ⟨st, e⟩ | ⟨_, e⟩ | ⟨_, e⟩ | ⟨_, e⟩ | ⟨_, e⟩ | ⟨_, e⟩ | ⟨_, _, e⟩ <;> rw [e]
  case inr.inl => exact .inr ⟨.inl ld, rfl⟩
  case inr.inr.inr.inl => exact .inr ⟨.inr st, rfl⟩
  all_goals exact .inl rfl

/-- A data byte writes `rep` only where it is the last one of a REPEAT capture (R181). -/
theorem handleWriteData_rep (b : Byte) (h : (handleWriteData b s).rep ≠ s.rep) :
    s.cs = .captureRepeat ∧ s.wcnt - 1 = 0 := by
  rcases handleWriteData_cases s b with ⟨_, e⟩ | ⟨capture, e⟩ <;> rw [e] at h
  · exact absurd rfl h
  · rcases repeatCapture_cases { s with fs := .handleWrite, data := b, wcnt := s.wcnt - 1 } b with
      ⟨_, e'⟩ | ⟨last, _⟩
    · rw [e'] at h
      exact absurd rfl h
    · exact ⟨capture, last⟩

theorem frameStep_rep (f : Frame) (h : (frameStep f s).rep ≠ s.rep) :
    (s.opcode = opIdle ∧ (frameStep f s).rep = 0 ∧ ((frameStep f s).opcode = 0x1 ∨ (frameStep f s).opcode = 0x3)) ∨
    (s.opcode ≠ opIdle ∧ s.cs = .captureRepeat ∧ s.wcnt = 1) := by
  rcases frameStep_cases s f with ⟨_, e⟩ | ⟨even, closed, _⟩ | ⟨_, opened, due, e⟩ | ⟨_, _, _, e⟩
  · rw [e] at h
    exact absurd rfl h
  · refine .inl ⟨closed, ?_⟩
    rw [frameStep_eq_begun s even closed] at h ⊢
    rcases dispatchCount_rep (commandBegun (opcodeField (frameByte f)) (sizeFieldA (frameByte f))
      (sizeFieldB (frameByte f)) s) (opcodeField (frameByte f)) (sizeFieldA (frameByte f))
      (sizeFieldB (frameByte f)) with kept | ⟨nibble, zero⟩
    · exact absurd kept h
    · refine ⟨zero, ?_⟩
      rw [dispatchCount_writes]
      exact nibble
  · have written : (handleWriteData (frameByte f) (s.setFs .checkParity)).rep ≠ s.rep := by
      rw [e, finishFrame_writes] at h
      exact h
    obtain ⟨capture, last⟩ := handleWriteData_rep _ _ written
    refine .inr ⟨opened, capture, ?_⟩
    have last : s.wcnt - 1 = 0 := last
    omega
  · rw [e, finishFrame_writes, handleRead_writes] at h
    exact absurd rfl h

end Sys2Proof.Machine

namespace Sys2Proof.Proofs

open Sys2Proof.Machine Sys2Proof.Safety

/-- Settles O36: a step is a frame under the invariant or leaves the dissector alone; and under the invariant an open
transaction owes a byte in its active direction. -/
theorem dissectorInvariantIsKept : Obligations.DissectorInvariantIsKept := by
  refine ⟨fun s t inv h safe => ?_, fun s inv opened => ?_⟩
  · rw [← stepped_of_step s h] at safe ⊢
    rcases stepped_accepts_or_keeps s with ⟨_, rest, e⟩ | ⟨_, same, kept⟩
    · rw [e] at safe ⊢
      have safeBefore : s.refused = false := Bool.eq_false_iff.2 fun refused =>
        absurd ((frameStep_refused_of_refused (s.seePdi.setSchedule rest) _ refused).symm.trans safe) (by decide)
      exact frameStep_dissector _ ((inv safeBefore).seen rest) safe
    · exact (inv (kept.symm.trans safe)).congr same
  · obtain ⟨_, owed⟩ := inv.owed opened
    refine ⟨fun host => ((hostToTarget_iff s).1 host).resolve_left opened, fun target => ?_⟩
    have noWrite : ¬ 0 < s.wcnt := fun due => by
      rw [(hostToTarget_iff s).2 (.inr due)] at target
      cases target
    omega

/-- Settles O37: `refused` is sticky frame by frame, and `frameStep_refused_iff` says which frame sets it. -/
theorem onlyReservedCommandsAreRefused : Obligations.OnlyReservedCommandsAreRefused := by
  intro s t h
  rw [← stepped_of_step s h]
  rcases stepped_accepts_or_keeps s with ⟨⟨turn, pending, _⟩, rest, e⟩ | ⟨accepts, _, kept⟩
  · rw [e]
    refine ⟨frameStep_refused_of_refused (s.seePdi.setSchedule rest) _, fun safe inv => ?_⟩
    rw [frameStep_refused_iff _ (inv.seen rest) safe]
    constructor
    · rintro ⟨even, closed, reserved⟩
      rw [activeFrame_of_closed s closed] at even reserved
      exact ⟨turn, pending, closed, (xorReduce_eq_false_iff_even _).1 even, reserved⟩
    · rintro ⟨_, _, closed, even, reserved⟩
      rw [activeFrame_of_closed s closed]
      exact ⟨(xorReduce_eq_false_iff_even _).2 even, closed, reserved⟩
  · rw [kept]
    refine ⟨id, fun safe inv => ⟨fun refused => ?_, fun ⟨turn, pending, _⟩ => ?_⟩⟩
    · exact absurd (refused.symm.trans safe) (by decide)
    · exact absurd ⟨turn, pending, inv.fsIdle⟩ accepts

/-- Settles O57: no rule writes more than (2^32 - 1 + 1) × 4, and every data byte counts down. -/
theorem countersStayBounded : Obligations.CountersStayBounded := by
  intro s t bounded h
  rw [← stepped_of_step s h]
  rcases stepped_accepts_or_keeps s with ⟨_, rest, e⟩ | ⟨_, same, _⟩
  · rw [e]
    exact frameStep_countsBounded (s.seePdi.setSchedule rest) _ bounded
  · simp only [dissectorPart, Prod.mk.injEq] at same
    simpa [CountsBounded, same] using bounded

/-- Settles O58: the frames that write `rep`, by `frameStep_rep`. -/
theorem repeatCountChangesOnlyByItsRules : Obligations.RepeatCountChangesOnlyByItsRules := by
  intro s t h
  rw [← stepped_of_step s h]
  rcases stepped_accepts_or_keeps s with ⟨_, rest, e⟩ | ⟨_, same, _⟩
  · rw [e]
    exact frameStep_rep (s.seePdi.setSchedule rest) _
  · simp only [dissectorPart, Prod.mk.injEq] at same
    simp [same]

end Sys2Proof.Proofs
end

section
/-!
PROOFS. Whole transactions (R91, R153, R154, R180 to R182): frames delivered one after the other.

`deliver` is one frame of the active direction in the state with the mailbox filled and consumed (`deliver_eq`), which
meets the invariant whenever the state before did. A transaction is an induction over the bytes still owed.
-/

namespace Sys2Proof.Machine

open Sys2Proof.Safety

variable (s : State)

/-- `s` with the frame pair `p` put into the PDI mailbox and taken out of it again. -/
def mailed (p : Frame × Frame) (s : State) : State :=
  { s with pdiW := p.1, pdiR := p.2, pdiTgl := !s.pdiSeen, pdiSeen := !s.pdiSeen, schedule := [] }

/-- A delivered pair is one frame of the active direction (R66, R141). -/
theorem deliver_eq (p : Frame × Frame) (fs : s.fs = .idle) :
    deliver s p = frameStep (if hostToTarget s then p.1 else p.2) (mailed p s) := by
  refine stepped_of_acceptPdi
    { s with pdiW := p.1, pdiR := p.2, pdiTgl := !s.pdiSeen, schedule := [.acceptPdi] } rfl ?_ fs
  simp [State.pdiPending]

theorem Dissector_mailed {s : State} (inv : Dissector s) (p : Frame × Frame) : Dissector (mailed p s) :=
  Dissector.congr (s := s) rfl inv

/-! ### One command byte -/

section Command

variable {s} {p : Frame × Frame} (inv : Dissector s) (closed : s.opcode = opIdle)
include inv closed

theorem deliver_of_closed : deliver s p = frameStep p.1 (mailed p s) := by
  rw [deliver_eq s p inv.fsIdle, if_pos ((hostToTarget_iff s).2 (.inl closed))]

/-- An even host frame is taken as a command byte, which emits nothing and counts no pulse. -/
theorem deliver_command (even : xorReduce p.1 = false) :
    (deliver s p).opcode = opcodeField (frameByte p.1) ∧ (deliver s p).data = frameByte p.1 ∧
      (deliver s p).out = s.out ∧ (deliver s p).errCount = s.errCount := by
  obtain ⟨data, errCount⟩ := frameStep_latches_of_even (mailed p s) even
  rw [deliver_of_closed inv closed]
  refine ⟨?_, data, ?_, errCount⟩ <;> rw [frameStep_eq_begun (mailed p s) even closed, dispatchCount_writes] <;> rfl

/-- A command byte in an even frame does what its instruction does. -/
theorem deliver_evenFrame {b : Byte} {q : Frame} {t : State}
    (run : exec (decodeCommand b) (mailed (evenFrame b, q) s) = .next t) : deliver s (evenFrame b, q) = t := by
  have command := exec_decodeCommand (mailed (evenFrame b, q) s) (xorReduce_evenFrame b) closed
  rw [frameByte_evenFrame, run] at command
  rw [deliver_of_closed inv closed]
  exact (Host.Outcome.next.inj command).symm

end Command

/-- REPEAT opens a capture of `bb + 1` bytes (R176). -/
theorem deliver_repeatCommand {s : State} (inv : Dissector s) (closed : s.opcode = opIdle) (aa bb : SizeField)
    (q : Frame) :
    let t := deliver s (evenFrame (commandByte 0x5 aa bb), q)
    Dissector t ∧ t.opcode = opRepeat ∧ t.wcnt = bb.toNat + 1 ∧ t.rcnt = 0 ∧ t.arg = argOf aa bb ∧ t.out = s.out := by
  intro t
  have effect : t = _ := deliver_evenFrame (q := q) inv closed
    ((congrArg (exec · _) (decodeCommand_commandByte 0x5 aa bb)).trans
      (Proofs.repeatCommandWaitsForItsPayload _ aa bb))
  rw [effect]
  exact ⟨.of_capture rfl rfl rfl rfl (Nat.succ_pos _) rfl, rfl, rfl, rfl, rfl, rfl⟩

/-- LD owes `rep + 1` times its size and zeroes `rep` (R172). -/
theorem deliver_ldCommand {s : State} (inv : Dissector s) (closed : s.opcode = opIdle) (aa bb : SizeField)
    (q : Frame) :
    let t := deliver s (evenFrame (commandByte 0x1 aa bb), q)
    t.opcode = 0x1 ∧ t.wcnt = 0 ∧ t.rcnt = (s.rep.toNat + 1) * (bb.toNat + 1) ∧ t.rep = 0 := by
  intro t
  have effect : t = _ := deliver_evenFrame (q := q) inv closed
    ((congrArg (exec · _) (decodeCommand_commandByte 0x1 aa bb)).trans
      (Proofs.indirectCommandsUseTheRepeatCount _ aa bb).1)
  rw [effect]
  exact ⟨rfl, rfl, rfl, rfl⟩

/-! ### The bytes of a transaction -/

/-- The frame of the active direction, with a transaction open: the host's while write bytes are due. -/
theorem deliver_dataByte {p : Frame × Frame} (inv : Dissector s) (opened : s.opcode ≠ opIdle)
    (even : xorReduce (transactionFrame s.wcnt 0 p) = false) :
    DataByte (transactionFrame s.wcnt 0 p) s (deliver s p) := by
  have active : (if hostToTarget s then p.1 else p.2) = transactionFrame s.wcnt 0 p := by
    simp [transactionFrame, hostToTarget, opened]
  rw [deliver_eq s p inv.fsIdle, active]
  obtain ⟨invariant, wcnt, rcnt, out, errCount, refused⟩ :=
    frameStep_dataByte (mailed p s) (Dissector_mailed inv p) even opened
  exact ⟨invariant, wcnt, rcnt, out, errCount, refused⟩

/-- The frames of a run of pairs: the host's first `w`, then the target's. -/
def transactionFrames (w : Nat) (pairs : List (Frame × Frame)) : List Frame :=
  pairs.mapIdx fun k p => transactionFrame w k p

theorem transactionFrames_cons (w : Nat) (p : Frame × Frame) (pairs : List (Frame × Frame)) :
    transactionFrames w (p :: pairs) = transactionFrame w 0 p :: transactionFrames (w - 1) pairs := by
  have shifted : (fun k p => transactionFrame w (k + 1) p) = fun k p => transactionFrame (w - 1) k p := by
    funext k p
    have moved : k + 1 < w ↔ k < w - 1 := by omega
    simp only [transactionFrame, moved]
  rw [transactionFrames, List.mapIdx_cons, shifted]
  rfl

/-- While only write bytes are due every frame is the host's. -/
theorem transactionFrames_of_write {w : Nat} {pairs : List (Frame × Frame)} (h : pairs.length ≤ w) :
    transactionFrames w pairs = pairs.map Prod.fst := by
  induction pairs generalizing w with
  | nil => rfl
  | cons p pairs ih =>
    have more : pairs.length + 1 ≤ w := h
    rw [transactionFrames_cons, ih (by omega), transactionFrame, if_pos (by omega), List.map_cons]

/-- As many good frames as bytes are owed: each is emitted, and the transaction closes. -/
theorem deliverAll_owed {pairs : List (Frame × Frame)} (inv : Dissector s)
    (owed : pairs.length = s.wcnt + s.rcnt) (even : ∀ f ∈ transactionFrames s.wcnt pairs, onesIn f % 2 = 0) :
    let t := deliverAll pairs s
    Dissector t ∧ t.wcnt = 0 ∧ t.rcnt = 0 ∧
      t.out = s.out ++ (transactionFrames s.wcnt pairs).flatMap (fun f => pdiEventFrame (frameByte f)) ∧
      t.errCount = s.errCount ∧ t.refused = s.refused := by
  induction pairs generalizing s with
  | nil =>
    have none : 0 = s.wcnt + s.rcnt := owed
    have w : s.wcnt = 0 := by omega
    have r : s.rcnt = 0 := by omega
    exact ⟨inv, w, r, (List.append_nil _).symm, rfl, rfl⟩
  | cons p pairs ih =>
    have owed : pairs.length + 1 = s.wcnt + s.rcnt := owed
    have opened : s.opcode ≠ opIdle := fun closed => by
      obtain ⟨w, r⟩ := inv.counts_of_closed closed
      omega
    rw [transactionFrames_cons] at even ⊢
    obtain ⟨evenFirst, evenRest⟩ := List.forall_mem_cons.1 even
    obtain ⟨inv', wcnt, rcnt, out, errCount, refused⟩ :=
      deliver_dataByte s inv opened ((xorReduce_eq_false_iff_even _).2 evenFirst)
    have owed' : pairs.length = (deliver s p).wcnt + (deliver s p).rcnt := by
      rw [wcnt, rcnt]
      split <;> omega
    rw [← wcnt] at evenRest ⊢
    obtain ⟨invEnd, w, r, outEnd, errEnd, refusedEnd⟩ := ih (deliver s p) inv' owed' evenRest
    refine ⟨invEnd, w, r, ?_, errEnd.trans errCount, refusedEnd.trans refused⟩
    rw [List.flatMap_cons, ← List.append_assoc, ← out]
    exact outEnd

/-! ### The payload of a REPEAT -/

/-- One payload byte of a REPEAT: shifted into `acc`, and the last one sets `rep` (R180, R181). -/
theorem deliver_payloadByte {p : Frame × Frame} {b : Byte} (inv : Dissector s) (capture : s.opcode = opRepeat)
    (hp : p.1 = evenFrame b) :
    (deliver s p).acc.toNat = (s.acc.toNat * 256 + b.toNat) % 2 ^ 32 ∧ (deliver s p).arg = s.arg ∧
    ((deliver s p).opcode = if s.wcnt = 1 then opIdle else opRepeat) ∧
    (s.wcnt = 1 → (deliver s p).rep.toNat = (s.acc.toNat * 256 + b.toNat) % 2 ^ (8 * repeatWidth s.arg)) := by
  obtain ⟨due, noRead⟩ := inv.captureCounts capture
  have opened : s.opcode ≠ opIdle := by rw [capture]; decide
  have host : hostToTarget s = true := (hostToTarget_iff s).2 (.inr due)
  have even : xorReduce p.1 = false := by rw [hp]; exact xorReduce_evenFrame b
  have byte : frameByte p.1 = b := by rw [hp]; exact frameByte_evenFrame b
  have width : (2 : Nat) ^ (8 * repeatWidth s.arg) ∣ 2 ^ 32 :=
    Nat.pow_dvd_pow 2 (by have := (repeatWidth_le s.arg).2; omega)
  have fits : ∀ n, n % 2 ^ (8 * repeatWidth s.arg) < 2 ^ 32 := fun n =>
    (Nat.mod_lt n (by positivity)).trans_le (Nat.le_of_dvd (by positivity) width)
  rw [deliver_eq s p inv.fsIdle, if_pos host,
    frameStep_of_capture (mailed p s) even opened inv.updClear due (inv.captureIff.2 capture), byte,
    accumulate_eq_ofNat]
  refine ⟨BitVec.toNat_ofNat _ _, rfl, ?_, fun last => ?_⟩
  · simp [mailed, noRead, capture]
  · simp only [mailed, last, if_true]
    rw [BitVec.toNat_ofNat, BitVec.toNat_ofNat, Nat.mod_mod_of_dvd _ width, Nat.mod_eq_of_lt (fits _)]

/-- A byte list read onto a number from below, as the accumulator reads it. -/
def readOnto (start : Nat) (bytes : List Byte) : Nat := bytes.foldl (fun v b => v * 256 + b.toNat) start

/-- Only the low part of the number matters to the low part of the result. -/
theorem readOnto_modEq {m a a' : Nat} (h : a ≡ a' [MOD m]) (bytes : List Byte) :
    readOnto a bytes ≡ readOnto a' bytes [MOD m] := by
  induction bytes generalizing a a' with
  | nil => exact h
  | cons b bytes ih => exact ih ((h.mul_right 256).add_right b.toNat)

/-- As many bytes as the modulus has leave nothing of the number they were read onto. -/
theorem readOnto_eq (start : Nat) (bytes : List Byte) :
    readOnto start bytes = start * 256 ^ bytes.length + bigEndian bytes := by
  induction bytes generalizing start with
  | nil => simp [readOnto, bigEndian]
  | cons b bytes ih =>
    have first : bigEndian (b :: bytes) = readOnto b.toNat bytes := by simp [bigEndian, readOnto]
    rw [first, ih b.toNat]
    show readOnto (start * 256 + b.toNat) bytes = _
    rw [ih, List.length_cons]
    ring

theorem bigEndian_lt (bytes : List Byte) : bigEndian bytes < 256 ^ bytes.length := by
  induction bytes with
  | nil => simp [bigEndian]
  | cons b bytes ih =>
    have first : bigEndian (b :: bytes) = b.toNat * 256 ^ bytes.length + bigEndian bytes :=
      (show bigEndian (b :: bytes) = readOnto b.toNat bytes by simp [bigEndian, readOnto]).trans (readOnto_eq _ _)
    have byte : b.toNat + 1 ≤ 256 := b.isLt
    calc bigEndian (b :: bytes) < (b.toNat + 1) * 256 ^ bytes.length := by rw [first]; linarith
      _ ≤ 256 * 256 ^ bytes.length := Nat.mul_le_mul_right _ byte
      _ = 256 ^ (b :: bytes).length := by rw [List.length_cons]; ring

/-- A whole payload: `rep` holds the low bytes of what `acc` held with the payload read onto it. -/
theorem deliverAll_payload {pairs : List (Frame × Frame)} {payload : List Byte} (inv : Dissector s)
    (capture : s.opcode = opRepeat) (owed : payload.length = s.wcnt)
    (hp : pairs.map Prod.fst = payload.map evenFrame) :
    (deliverAll pairs s).rep.toNat = readOnto s.acc.toNat payload % 2 ^ (8 * repeatWidth s.arg) := by
  induction payload generalizing s pairs with
  | nil =>
    have due := (inv.captureCounts capture).1
    have none : 0 = s.wcnt := owed
    omega
  | cons b payload ih =>
    obtain ⟨due, noRead⟩ := inv.captureCounts capture
    rcases pairs with _ | ⟨p, pairs⟩
    · cases hp
    obtain ⟨hfirst, hrest⟩ := List.cons.inj hp
    have owed : payload.length + 1 = s.wcnt := owed
    obtain ⟨acc, arg, opcode, rep⟩ := deliver_payloadByte s inv capture hfirst
    have write : transactionFrame s.wcnt 0 p = evenFrame b := (if_pos due).trans hfirst
    obtain ⟨inv', wcnt, _⟩ := deliver_dataByte s (p := p) inv (by rw [capture]; decide)
      (by rw [write]; exact xorReduce_evenFrame b)
    by_cases last : s.wcnt = 1
    · have nothing : payload = [] := List.length_eq_zero_iff.1 (by omega)
      subst nothing
      have noPairs : pairs = [] := List.map_eq_nil_iff.1 hrest
      rw [noPairs]
      exact rep last
    · rw [if_neg last] at opcode
      have wraps : (deliver s p).acc.toNat ≡ s.acc.toNat * 256 + b.toNat [MOD 2 ^ (8 * repeatWidth s.arg)] := by
        rw [acc]
        exact (Nat.mod_modEq _ _).of_dvd (Nat.pow_dvd_pow 2 (by have := (repeatWidth_le s.arg).2; omega))
      have rest := ih (deliver s p) inv' opcode (by omega) hrest
      rw [arg] at rest
      exact rest.trans (readOnto_modEq wraps payload)

/-- The accumulator's old value is shifted out by a payload as long as the width. -/
theorem readOnto_mod_width (start : Nat) {payload : List Byte} {width : Nat} (h : payload.length = width) :
    readOnto start payload % 2 ^ (8 * width) = bigEndian payload := by
  have size : 2 ^ (8 * width) = 256 ^ payload.length := by rw [h, pow_mul]; rfl
  rw [size, readOnto_eq, Nat.mul_add_mod_self_right, Nat.mod_eq_of_lt (bigEndian_lt payload)]

theorem repeatWidth_argOf (aa bb : SizeField) : repeatWidth (argOf aa bb) = bb.toNat + 1 := by
  revert aa bb; decide

end Sys2Proof.Machine

namespace Sys2Proof.Proofs

open Sys2Proof.Machine Sys2Proof.Safety

/-- Settles O39: a defined command byte owes some bytes (`frameStep_command_cases`), and `deliverAll_owed` pays them. -/
theorem transactionEmitsExactlyItsBytes : Obligations.TransactionEmitsExactlyItsBytes := by
  intro s c q pairs inv closed defined u frames owed even t
  obtain ⟨_, _, outCommand, errCommand⟩ := deliver_command (p := (evenFrame c, q)) inv closed (xorReduce_evenFrame c)
  have invCommand : Dissector u ∧ u.refused = s.refused := by
    rcases frameStep_command_cases _ (Dissector_mailed inv (evenFrame c, q)) (xorReduce_evenFrame c) closed with
      ⟨⟨reserved, _⟩, _⟩ | ⟨_, kept, inv'⟩
    · rw [frameByte_evenFrame] at reserved
      omega
    · rw [← deliver_of_closed (p := (evenFrame c, q)) inv closed] at kept inv'
      exact ⟨inv', kept⟩
  obtain ⟨invEnd, w, r, out, errCount, refused⟩ := deliverAll_owed u invCommand.1 owed even
  refine ⟨outCommand, ?_, invEnd.closed_of_counts w r, w, r, errCount.trans errCommand,
    refused.trans invCommand.2⟩
  rw [outCommand] at out
  exact out

/-- Settles O40: PARITY-ERROR leaves a closed dissector, and the next even host frame is its command byte. -/
theorem parityErrorStartsAfresh : Obligations.ParityErrorStartsAfresh := by
  intro s p q inv odd even t
  have after : t = { mailed p s with
      fs := .idle, errCount := s.errCount + 1, opcode := opIdle, wcnt := 0, rcnt := 0, cs := .idle } := by
    show deliver s p = _
    rw [deliver_eq s p inv.fsIdle, frameStep_of_odd _ ((xorReduce_iff_odd _).2 odd)]
    rfl
  have invAfter : Dissector t := by
    rw [after]
    exact .of_closed rfl inv.updClear rfl rfl rfl rfl
  have closed : t.opcode = opIdle := by rw [after]
  obtain ⟨opcode, data, out, errCount⟩ :=
    deliver_command (p := q) invAfter closed ((xorReduce_eq_false_iff_even _).2 even)
  have outAfter : t.out = s.out := by rw [after]; rfl
  have errAfter : t.errCount = s.errCount + 1 := by rw [after]
  have dissector : dissectorPart t = (0xF, .idle, .idle, s.arg, s.data, false, 0, 0, s.rep, s.acc) := by
    rw [after, ← inv.updClear]
    rfl
  exact ⟨errAfter, outAfter, dissector, opcode, data, out.trans outAfter, errCount.trans errAfter⟩

/-- Settles O38: the REPEAT command opens a capture of `bb + 1` bytes, which is the width its argument selects, so the
payload fills `rep`; the LD after it reads `rep` and zeroes it. -/
theorem repeatThenLoadCountsThePayload : Obligations.RepeatThenLoadCountsThePayload := by
  intro s aa bb aa' bb' payload pairs q inv closed length hp t u
  rcases pairs with _ | ⟨⟨command, unused⟩, pairs⟩
  · cases hp
  obtain ⟨hcommand, hpayload⟩ := List.cons.inj hp
  obtain rfl : command = evenFrame (commandByte 0x5 aa bb) := hcommand
  obtain ⟨invOpen, opcode, wcnt, rcnt, arg, outOpen⟩ := deliver_repeatCommand inv closed aa bb unused
  have count : pairs.length = payload.length := by simpa using congrArg List.length hpayload
  have frames : transactionFrames (deliver s (evenFrame (commandByte 0x5 aa bb), unused)).wcnt pairs =
      payload.map evenFrame := by
    rw [transactionFrames_of_write (by omega), hpayload]
  obtain ⟨invEnd, w, r, out, _⟩ := deliverAll_owed _ (pairs := pairs) invOpen (by omega) (by
    rw [frames]
    exact List.forall_mem_map.2 fun b _ => (xorReduce_eq_false_iff_even _).1 (xorReduce_evenFrame b))
  have rep := deliverAll_payload _ invOpen opcode (length.trans wcnt.symm) hpayload
  rw [arg, repeatWidth_argOf, readOnto_mod_width _ length] at rep
  rw [frames, List.flatMap_map, outOpen] at out
  simp only [frameByte_evenFrame] at out
  have closedEnd := invEnd.closed_of_counts w r
  obtain ⟨opcodeLd, wcntLd, rcntLd, repLd⟩ := deliver_ldCommand invEnd closedEnd aa' bb' q
  rw [rep] at rcntLd
  exact ⟨rep, closedEnd, invEnd.cs_idle (by rw [closedEnd]; decide), out, opcodeLd, wcntLd, rcntLd, repLd⟩

end Sys2Proof.Proofs
end

section
/-!
PROOFS. The two mailboxes between the agents (20_memory.md R65 to R71, 70_reset_and_hazards.md R248).

Both are a value with a toggle that the bus agent inverts and a copy of it that the processing agent keeps. A step
posts a value, takes what waits, misses it, or leaves the mailbox alone (`Mailbox.Move`); each of the three statements
is a fact about one move, carried along a run.
-/

namespace Sys2Proof.Machine

open Sys2Proof.Safety

/-! ### One mailbox -/

/-- A mailbox: its value, its ready flag, the flag's consumed copy, what the next step accepts from it, and whether the
next step would miss what waits in it. -/
structure Mailbox (α : Type) where
  value : State → α
  tgl : State → Bool
  seen : State → Bool
  accepted : State → List α
  misses : State → Prop

namespace Mailbox

variable {α : Type} (m : Mailbox α) (s : State)

/-- Whether a value waits (R66). -/
def pending : Bool := m.tgl s != m.seen s

/-- The value waiting, if one does. -/
def waiting : List α := if m.pending s then [m.value s] else []

/-- The value the next step commits, if it commits one (R65). -/
def committed : List α := if m.tgl (stepped s) = m.tgl s then [] else [m.value (stepped s)]

/-- What a step does to a mailbox. -/
inductive Move : Prop where
  /-- a commit: the value written, the flag inverted (R65) -/
  | post (tgl : m.tgl (stepped s) = !m.tgl s) (seen : m.seen (stepped s) = m.seen s) (none : m.accepted s = [])
  /-- nothing -/
  | keep (value : m.value (stepped s) = m.value s) (tgl : m.tgl (stepped s) = m.tgl s)
      (seen : m.seen (stepped s) = m.seen s) (none : m.accepted s = [])
  /-- an accept step, be there a value or not (R66) -/
  | accept (value : m.value (stepped s) = m.value s) (tgl : m.tgl (stepped s) = m.tgl s)
      (seen : m.seen (stepped s) = m.tgl s) (all : m.accepted s = m.waiting s)
  /-- a miss (R67) -/
  | miss (value : m.value (stepped s) = m.value s) (tgl : m.tgl (stepped s) = m.tgl s)
      (seen : m.seen (stepped s) = m.tgl s) (misses : m.misses s) (none : m.accepted s = [])

variable {m s}

theorem committed_of_same (h : m.tgl (stepped s) = m.tgl s) : m.committed s = [] := if_pos h

theorem committed_of_toggled (h : m.tgl (stepped s) = !m.tgl s) : m.committed s = [m.value (stepped s)] :=
  if_neg (by simp [h])

theorem waiting_of_consumed (h : m.pending s = false) : m.waiting s = [] := if_neg (by simp [h])

theorem waiting_sublist : (m.waiting s).Sublist [m.value s] := by
  unfold waiting
  split
  · exact List.Sublist.refl _
  · exact List.nil_sublist _

/-- A consumed flag leaves nothing waiting. -/
theorem waiting_of_seen (tgl : m.tgl (stepped s) = m.tgl s) (seen : m.seen (stepped s) = m.tgl s) :
    m.waiting (stepped s) = [] :=
  waiting_of_consumed (by simp [pending, tgl, seen])

theorem pending_of_kept (tgl : m.tgl (stepped s) = m.tgl s) (seen : m.seen (stepped s) = m.seen s) :
    m.pending (stepped s) = m.pending s := by
  rw [pending, pending, tgl, seen]

theorem waiting_of_kept (value : m.value (stepped s) = m.value s) (tgl : m.tgl (stepped s) = m.tgl s)
    (seen : m.seen (stepped s) = m.seen s) : m.waiting (stepped s) = m.waiting s := by
  rw [waiting, waiting, pending_of_kept tgl seen, value]

theorem pending_of_post (tgl : m.tgl (stepped s) = !m.tgl s) (seen : m.seen (stepped s) = m.seen s) :
    m.pending (stepped s) = !m.pending s := by
  simp [pending, tgl, seen]

/-! ### Along any run -/

/-- What a step accepts and what waits after it was waiting before it or is committed by it, in that order. -/
theorem Move.sublist (h : m.Move s) :
    (m.accepted s ++ m.waiting (stepped s)).Sublist (m.waiting s ++ m.committed s) := by
  cases h with
  | post tgl seen none =>
    rw [none, committed_of_toggled tgl]
    exact waiting_sublist.trans (List.sublist_append_right _ _)
  | keep value tgl seen none =>
    rw [none, committed_of_same tgl, waiting_of_kept value tgl seen, List.append_nil]
    exact List.Sublist.refl _
  | accept value tgl seen all =>
    rw [all, committed_of_same tgl, waiting_of_seen tgl seen]
  | miss value tgl seen misses none =>
    rw [none, waiting_of_seen tgl seen]
    exact List.nil_sublist _

/-- Along a run the accepted values are a subsequence of what waited first and what was committed (R71). -/
theorem along_sublist (move : ∀ s, m.Move s) (k : Nat) (s : State) :
    (along m.accepted k s).Sublist (m.waiting s ++ along m.committed k s) := by
  induction k generalizing s with
  | zero => exact List.nil_sublist _
  | succ k ih =>
    have rest := (ih (stepped s)).append_left (m.accepted s)
    have first := (move s).sublist.append_right (along m.committed k (stepped s))
    rw [List.append_assoc, List.append_assoc] at first
    exact rest.trans first

/-! ### Within the premise BUS_SLOW -/

/-- A step within the premise: nothing waiting is written over or missed (R69). -/
structure Slow (m : Mailbox α) (s : State) : Prop where
  commits : m.committed s ≠ [] → m.pending s = false
  misses : m.misses s → m.pending s = false

theorem Move.eq_of_slow (h : m.Move s) (slow : m.Slow s) :
    m.waiting s ++ m.committed s = m.accepted s ++ m.waiting (stepped s) := by
  cases h with
  | post tgl seen none =>
    have consumed : m.pending s = false := slow.commits (by simp [committed_of_toggled tgl])
    have waits : m.pending (stepped s) = true := by rw [pending_of_post tgl seen, consumed, Bool.not_false]
    rw [none, committed_of_toggled tgl, waiting_of_consumed consumed, waiting, if_pos waits]
  | keep value tgl seen none =>
    rw [none, committed_of_same tgl, waiting_of_kept value tgl seen, List.append_nil, List.nil_append]
  | accept value tgl seen all =>
    rw [all, committed_of_same tgl, waiting_of_seen tgl seen]
  | miss value tgl seen misses none =>
    rw [none, committed_of_same tgl, waiting_of_seen tgl seen, waiting_of_consumed (slow.misses misses)]

/-- Along a run within the premise nothing is lost (R69). -/
theorem along_eq_of_slow (move : ∀ s, m.Move s) {k : Nat} {s : State} (slow : ∀ j < k, m.Slow (steppedTimes j s)) :
    m.waiting s ++ along m.committed k s = along m.accepted k s ++ m.waiting (steppedTimes k s) := by
  induction k generalizing s with
  | zero => simp [along, steppedTimes]
  | succ k ih =>
    have first := (move s).eq_of_slow (slow 0 (Nat.succ_pos k))
    have rest := ih (s := stepped s) fun j hj => slow (j + 1) (Nat.succ_lt_succ hj)
    calc m.waiting s ++ (m.committed s ++ along m.committed k (stepped s))
        = (m.accepted s ++ m.waiting (stepped s)) ++ along m.committed k (stepped s) := by
          rw [← List.append_assoc, first]
      _ = (m.accepted s ++ along m.accepted k (stepped s)) ++ m.waiting (steppedTimes k (stepped s)) := by
          rw [List.append_assoc, rest, List.append_assoc]

/-! ### With no processing step between the commits -/

/-- Where the consumed copy stays, a step inverts `pending` and commits, or leaves the mailbox alone. -/
theorem Move.of_seen_kept (h : m.Move s) (kept : m.seen (stepped s) = m.seen s) :
    (m.pending (stepped s) = !m.pending s ∧ m.committed s = [m.value (stepped s)]) ∨
    (m.pending (stepped s) = m.pending s ∧ m.committed s = [] ∧ m.value (stepped s) = m.value s) := by
  cases h with
  | post tgl seen none => exact .inl ⟨pending_of_post tgl seen, committed_of_toggled tgl⟩
  | keep value tgl | accept value tgl | miss value tgl =>
    exact .inr ⟨pending_of_kept tgl kept, committed_of_same tgl, value⟩

/-- Each commit inverts `pending`, and the value is the last one committed (R68). -/
theorem after_commits (move : ∀ s, m.Move s) {k : Nat} {s : State}
    (kept : ∀ j < k, m.seen (stepped (steppedTimes j s)) = m.seen (steppedTimes j s)) :
    m.pending (steppedTimes k s) = (m.pending s ^^ decide ((along m.committed k s).length % 2 = 1)) ∧
    m.value (steppedTimes k s) = (along m.committed k s).getLast?.getD (m.value s) := by
  induction k generalizing s with
  | zero => simp [along, steppedTimes]
  | succ k ih =>
    obtain ⟨pending, value⟩ := ih (s := stepped s) fun j hj => kept (j + 1) (Nat.succ_lt_succ hj)
    rw [steppedTimes, along, pending, value]
    rcases (move s).of_seen_kept (kept 0 (Nat.succ_pos k)) with ⟨toggled, one⟩ | ⟨same, none, before⟩
    · have parity : decide (((along m.committed k (stepped s)).length + 1) % 2 = 1) =
          !decide ((along m.committed k (stepped s)).length % 2 = 1) := by
        rw [← decide_not, decide_eq_decide]
        omega
      rw [toggled, one, List.singleton_append, List.length_cons, parity, List.getLast?_cons]
      simp
    · rw [same, none, before]
      exact ⟨rfl, rfl⟩

/-- From a consumed mailbox the last value waits after an odd number of commits, and nothing after an even one. -/
theorem waiting_after_commits (move : ∀ s, m.Move s) {k : Nat} {s : State}
    (kept : ∀ j < k, m.seen (stepped (steppedTimes j s)) = m.seen (steppedTimes j s)) (consumed : m.pending s = false) :
    m.waiting (steppedTimes k s) =
      if (along m.committed k s).length % 2 = 1 then (along m.committed k s).getLast?.toList else [] := by
  obtain ⟨pending, value⟩ := after_commits move kept
  rw [waiting, pending, value, consumed, Bool.false_xor]
  by_cases odd : (along m.committed k s).length % 2 = 1
  · have some : along m.committed k s ≠ [] := fun none => by simp [none] at odd
    simp [odd, List.getLast?_eq_some_getLast some]
  · simp [odd]

end Mailbox

/-! ### The two mailboxes -/

/-- The PDI mailbox (R28, R29); an accept step outside the frame machine's IDLE state is a miss (log entry 14). -/
def pdiMailbox : Mailbox (Frame × Frame) where
  value s := (s.pdiW, s.pdiR)
  tgl s := s.pdiTgl
  seen s := s.pdiSeen
  accepted := acceptedPdi
  misses s := s.schedule.head? = some .missPdi ∨ s.fs ≠ .idle

/-- The IDCODE mailbox (R26, R27). -/
def idMailbox : Mailbox Word where
  value s := s.idcode
  tgl s := s.idTgl
  seen s := s.idSeen
  accepted := acceptedId
  misses s := s.schedule.head? = some .missId

variable (s : State)

theorem stepped_seen_of_bus {x : Sample} {rest : List Turn} (h : s.schedule = .bus x :: rest) :
    (stepped s).idSeen = s.idSeen ∧ (stepped s).pdiSeen = s.pdiSeen := by
  obtain ⟨idSeen, pdiSeen, _⟩ := processingPart_eq (stepped_processingPart_of_bus s h)
  exact ⟨idSeen, pdiSeen⟩

theorem pdiMailbox_move : pdiMailbox.Move s := by
  rcases step_cases s with
    ⟨h, e⟩ | ⟨x, rest, h, _⟩ | ⟨_, h, _, e⟩ | ⟨rest, h, pending, fs, e⟩ | ⟨_, h, e⟩ | ⟨_, h, e⟩
  · exact .keep (by rw [e]) (by rw [e]) (by rw [e]) (by simp [pdiMailbox, acceptedPdi, h])
  · have none : acceptedPdi s = [] := by simp [acceptedPdi, h]
    have seen := (stepped_seen_of_bus s h).2
    have keep (same : pdiMail (stepped s) = pdiMail s) : pdiMailbox.Move s := by
      obtain ⟨w, r, tgl⟩ := pdiMail_eq same
      exact .keep (Prod.ext w r) tgl seen none
    rcases stepped_mail_of_bus s h with ⟨_, same⟩ | ⟨_, ⟨_, same⟩ | ⟨toggled, _⟩⟩
    · exact keep same
    · exact keep same
    · exact .post toggled seen none
  · exact .keep (by rw [e]; rfl) (by rw [e]; rfl) (by rw [e]; rfl) (by simp [pdiMailbox, acceptedPdi, h])
  · refine .accept ?_ ?_ ?_ ?_
    · show ((stepped s).pdiW, (stepped s).pdiR) = (s.pdiW, s.pdiR)
      rw [e, frameStep_pdiW, frameStep_pdiR]
      rfl
    · show (stepped s).pdiTgl = s.pdiTgl
      rw [e, frameStep_pdiTgl]
      rfl
    · show (stepped s).pdiSeen = s.pdiTgl
      rw [e, frameStep_pdiSeen]
      rfl
    · show acceptedPdi s = waitingPdi s
      simp [acceptedPdi, waitingPdi, h, pending, fs]
  · refine .keep (by rw [e]; rfl) (by rw [e]; rfl) (by rw [e]; rfl) ?_
    rcases h with h | ⟨h, _⟩ <;> simp [pdiMailbox, acceptedPdi, h]
  · rcases h with h | ⟨h, consumed | busy⟩
    · refine .miss (by rw [e]; rfl) (by rw [e]; rfl) (by rw [e]; rfl) (.inl (congrArg List.head? h)) ?_
      simp [pdiMailbox, acceptedPdi, h]
    · refine .accept (by rw [e]; rfl) (by rw [e]; rfl) (by rw [e]; rfl) ?_
      show acceptedPdi s = waitingPdi s
      simp [acceptedPdi, waitingPdi, h, consumed]
    · refine .miss (by rw [e]; rfl) (by rw [e]; rfl) (by rw [e]; rfl) (.inr busy) ?_
      simp [pdiMailbox, acceptedPdi, h, busy]

theorem idMailbox_move : idMailbox.Move s := by
  rcases step_cases s with
    ⟨h, e⟩ | ⟨x, rest, h, _⟩ | ⟨_, h, pending, e⟩ | ⟨rest, h, _, _, e⟩ | ⟨_, h, e⟩ | ⟨_, h, e⟩
  · exact .keep (by rw [e]) (by rw [e]) (by rw [e]) (by simp [idMailbox, acceptedId, h])
  · have none : acceptedId s = [] := by simp [acceptedId, h]
    have seen := (stepped_seen_of_bus s h).1
    have keep (same : idMail (stepped s) = idMail s) : idMailbox.Move s := by
      obtain ⟨value, tgl⟩ := idMail_eq same
      exact .keep value tgl seen none
    rcases stepped_mail_of_bus s h with ⟨same, _⟩ | ⟨_, ⟨toggled, _⟩ | ⟨_, same⟩⟩
    · exact keep same
    · exact .post toggled seen none
    · exact keep same
  · refine .accept (by rw [e]; rfl) (by rw [e]; rfl) (by rw [e]; rfl) ?_
    show acceptedId s = waitingId s
    simp [acceptedId, waitingId, h, pending]
  · refine .keep ?_ ?_ ?_ (by simp [idMailbox, acceptedId, h])
    · show (stepped s).idcode = s.idcode
      rw [e, frameStep_idcode]
      rfl
    · show (stepped s).idTgl = s.idTgl
      rw [e, frameStep_idTgl]
      rfl
    · show (stepped s).idSeen = s.idSeen
      rw [e, frameStep_idSeen]
      rfl
  · rcases h with h | ⟨h, consumed⟩
    · refine .miss (by rw [e]; rfl) (by rw [e]; rfl) (by rw [e]; rfl) (congrArg List.head? h) ?_
      simp [idMailbox, acceptedId, h]
    · refine .accept (by rw [e]; rfl) (by rw [e]; rfl) (by rw [e]; rfl) ?_
      show acceptedId s = waitingId s
      simp [acceptedId, waitingId, h, consumed]
  · refine .keep (by rw [e]; rfl) (by rw [e]; rfl) (by rw [e]; rfl) ?_
    rcases h with h | ⟨h, _⟩ <;> simp [idMailbox, acceptedId, h]

/-! ### Runs -/

theorem steppedTimes_succ (k : Nat) : steppedTimes (k + 1) s = stepped (steppedTimes k s) := by
  induction k generalizing s with
  | zero => rfl
  | succ k ih => exact ih (stepped s)

/-- Between steps the frame machine stays in IDLE (R33). -/
theorem stepped_fs (h : s.fs = .idle) : (stepped s).fs = .idle := by
  rcases stepped_accepts_or_keeps s with ⟨_, _, e⟩ | ⟨_, same, _⟩
  · rw [e, frameStep_fs]
  · exact (congrArg (·.2.1) same).trans h

theorem steppedTimes_fs (k : Nat) (h : s.fs = .idle) : (steppedTimes k s).fs = .idle := by
  induction k with
  | zero => exact h
  | succ k ih => rw [steppedTimes_succ, stepped_fs _ ih]

theorem busSlowStep_of_busSlow {k : Nat} {s : State} (slow : BusSlow k s) {j : Nat} (h : j < k) :
    BusSlowStep (steppedTimes j s) := by
  induction j generalizing k s with
  | zero =>
    obtain ⟨k, rfl⟩ := Nat.exists_eq_succ_of_ne_zero (Nat.ne_of_gt h)
    exact slow.1
  | succ j ih =>
    obtain ⟨k, rfl⟩ := Nat.exists_eq_succ_of_ne_zero (Nat.ne_of_gt ((Nat.succ_pos j).trans h))
    exact ih slow.2 (Nat.lt_of_succ_lt_succ h)

/-- In a trace of samples every turn is a bus turn, so no flag is consumed. -/
theorem onBus_seen (xs : List Sample) {j : Nat} (h : j < xs.length) :
    (stepped (steppedTimes j (onBus xs s))).idSeen = (steppedTimes j (onBus xs s)).idSeen ∧
    (stepped (steppedTimes j (onBus xs s))).pdiSeen = (steppedTimes j (onBus xs s)).pdiSeen := by
  have turns : (steppedTimes j (onBus xs s)).schedule = .bus xs[j] :: (xs.map Turn.bus).drop (j + 1) := by
    rw [steppedTimes_schedule]
    show (xs.map Turn.bus).drop j = _
    rw [List.drop_eq_getElem_cons (by simpa using h), List.getElem_map]
  exact stepped_seen_of_bus _ turns

end Sys2Proof.Machine

namespace Sys2Proof.Proofs

open Sys2Proof.Machine Sys2Proof.Safety

/-- Settles O46: `Mailbox.along_sublist` for the two mailboxes. -/
theorem acceptedValuesAreASubsequence : Obligations.AcceptedValuesAreASubsequence :=
  fun k s => ⟨Mailbox.along_sublist pdiMailbox_move k s, Mailbox.along_sublist idMailbox_move k s⟩

/-- Settles O47: `Mailbox.along_eq_of_slow` for the two mailboxes; with `fs` in IDLE every PDI accept step accepts. -/
theorem busSlowLosesNothing : Obligations.BusSlowLosesNothing := by
  intro k s fs slow
  refine ⟨Mailbox.along_eq_of_slow pdiMailbox_move fun j hj => ?_,
    Mailbox.along_eq_of_slow idMailbox_move fun j hj => ?_⟩ <;>
    obtain ⟨missId, missPdi, commitId, commitPdi⟩ := busSlowStep_of_busSlow slow hj
  · exact ⟨commitPdi, fun misses => missPdi (misses.resolve_right fun busy => busy (steppedTimes_fs s j fs))⟩
  · exact ⟨commitId, missId⟩

/-- Settles O48: `Mailbox.waiting_after_commits` for the two mailboxes, on a trace that consumes no flag. -/
theorem evenCommitsAreInvisible : Obligations.EvenCommitsAreInvisible := by
  intro s xs
  exact ⟨Mailbox.waiting_after_commits (m := pdiMailbox) pdiMailbox_move (s := onBus xs s)
      fun j hj => (onBus_seen s xs hj).2,
    Mailbox.waiting_after_commits (m := idMailbox) idMailbox_move (s := onBus xs s)
      fun j hj => (onBus_seen s xs hj).1⟩

end Sys2Proof.Proofs
end

section
/-!
PROOFS. 40_tap.md and 30_encoding.md: the effect of each TAP state on a sample, and of whole scans (R61, R83 to R85,
R96).

A scan is a path of states without an action, a run of shifting edges, and another such path that ends in an update
state. The two runs of shifting edges are folds over the sampled bits (`afterBus_in_shiftDr`, `afterBus_in_shiftIr`).
-/

namespace Sys2Proof.Machine

open Sys2Proof.Safety

variable (s : State)

/-! ### The TAP path -/

/-- The table reads the parameters in `P_SELIR0` only (R102). -/
theorem nextTap_congr {c c' : Config} (h : c.selIr0 = c'.selIr0) : nextTap c = nextTap c' := by
  funext t b
  cases t <;> cases b <;> simp only [nextTap, h]

/-- Five tms = 1 samples leave RESET, whatever went before (R103). -/
theorem foldl_nextTap_of_sync {xs : List Sample} (sync : Sync xs) (c : Config) (t t' : TapState) :
    (xs.map Sample.tms).foldl (nextTap c) t = (xs.map Sample.tms).foldl (nextTap c) t' := by
  obtain ⟨before, five, after, rfl, length, ones⟩ := sync
  have bits : five.map Sample.tms = List.replicate 5 true :=
    List.eq_replicate_iff.2 ⟨by rw [List.length_map, length], by simpa using ones⟩
  simp only [List.map_append, List.foldl_append, bits, foldl_nextTap_five_ones]

/-! ### One sample, by the TAP state it is taken in -/

/-- The TAP states in which no register changes (R106 to R119). -/
abbrev Holding (t : TapState) : Prop :=
  t ≠ .reset ∧ t ≠ .shiftDr ∧ t ≠ .updateDr ∧ t ≠ .shiftIr ∧ t ≠ .updateIr

theorem exec_decodeTap_of_holding {t : TapState} (h : Holding t) (x : Sample) :
    exec (decodeTap t x) s = .next { s with tap := nextTap s.cfg t x.tms } := by
  obtain ⟨notReset, notShiftDr, notUpdateDr, notShiftIr, notUpdateIr⟩ := h
  rcases exec_decodeTap_cases s t x with
    ⟨_, _, _, _, _, e⟩ | ⟨is, _⟩ | ⟨is, _⟩ | ⟨is, _⟩ | ⟨is, _⟩ | ⟨is, _⟩
  · exact e
  · exact absurd is notReset
  · exact absurd is notShiftDr
  · exact absurd is notUpdateDr
  · exact absurd is notShiftIr
  · exact absurd is notUpdateIr

/-- A sample as the first of a trace, its effect given. -/
theorem afterBus_singleton_of_exec {x : Sample} {u : State}
    (h : exec (decodeTap s.tap x) (s.setSchedule []) = .next u) : afterBus [x] s = u :=
  Host.Outcome.next.inj ((afterBus_singleton s x).symm.trans h)

theorem afterBus_cons_eq (x : Sample) (xs : List Sample) : afterBus (x :: xs) s = afterBus xs (afterBus [x] s) :=
  afterBus_append s [x] xs

theorem afterBus_singleton_of_shiftDr (h : s.tap = .shiftDr) (x : Sample) :
    afterBus [x] s = { s with
      dri := shiftIntoData x.tdi s.dri, dro := shiftIntoData x.tdo s.dro,
      tap := nextTap s.cfg .shiftDr x.tms, schedule := [] } :=
  afterBus_singleton_of_exec s (by rw [h]; rfl)

theorem afterBus_singleton_of_shiftIr (h : s.tap = .shiftIr) (x : Sample) :
    afterBus [x] s = { s with
      irs := shiftIntoIr x.tdi s.irs, tap := nextTap s.cfg .shiftIr x.tms, schedule := [] } :=
  afterBus_singleton_of_exec s (by rw [h]; rfl)

theorem afterBus_singleton_of_updateIr (h : s.tap = .updateIr) (x : Sample) :
    afterBus [x] s = { s with ir := s.irs, tap := nextTap s.cfg .updateIr x.tms, schedule := [] } :=
  afterBus_singleton_of_exec s (by rw [h]; rfl)

theorem afterBus_singleton_of_updateDr (h : s.tap = .updateDr) (x : Sample) :
    afterBus [x] s = { updateData (s.setSchedule []) with tap := nextTap s.cfg .updateDr x.tms } := by
  have keeps : (updateData (s.setSchedule [])).cfg = s.cfg := by
    rcases updateData_cases (s.setSchedule []) with ⟨_, e⟩ | ⟨_, _, e⟩ | ⟨_, _, e⟩ <;> rw [e] <;> rfl
  refine afterBus_singleton_of_exec s ?_
  rw [h, decodeTap, exec_tapUpdateDr, advanceTap_eq]
  simp only [keeps]

/-! ### A path of states without an action -/

/-- Whether a trace from `t` takes each of its samples in a state without an action. -/
def HoldingPath (c : Config) : TapState → List Sample → Prop
  | _, [] => True
  | t, x :: xs => Holding t ∧ HoldingPath c (nextTap c t x.tms) xs

theorem afterBus_of_holdingPath {xs : List Sample} (h : HoldingPath s.cfg s.tap xs) :
    afterBus xs s = { s with tap := (xs.map Sample.tms).foldl (nextTap s.cfg) s.tap, schedule := [] } := by
  induction xs generalizing s with
  | nil => rfl
  | cons x xs ih =>
    obtain ⟨holds, rest⟩ := h
    have first : afterBus [x] s = { s with tap := nextTap s.cfg s.tap x.tms, schedule := [] } :=
      afterBus_singleton_of_exec s (exec_decodeTap_of_holding (s.setSchedule []) holds x)
    rw [afterBus_cons_eq, first, ih _ rest]
    rfl

/-! ### A run of shifting edges -/

/-- Bits shifted into a data register, the first one first (R61). -/
def shiftedData (bits : List Bool) (reg : Word) : Word := bits.foldl (fun r b => shiftIntoData b r) reg

/-- Bits shifted into the instruction register, the first one first (R62). -/
def shiftedIr (bits : List Bool) (reg : Nibble) : Nibble := bits.foldl (fun r b => shiftIntoIr b r) reg

/-- The register and the shifted bits are one row of bits, of which the last 32 stay (R61). -/
theorem getLsbD_shiftedData (bits : List Bool) (reg : Word) {j : Nat} (hj : j < 32) :
    (shiftedData bits reg).getLsbD j =
      if 32 ≤ j + bits.length then bits.getD (j + bits.length - 32) false else reg.getLsbD (j + bits.length) := by
  induction bits generalizing reg with
  | nil =>
    rw [if_neg (by simpa using hj)]
    rfl
  | cons b bits ih =>
    show (shiftedData bits (shiftIntoData b reg)).getLsbD j = _
    rw [ih, List.length_cons, getLsbD_shiftIntoData]
    rcases Nat.lt_trichotomy (j + bits.length) 31 with below | here | above
    · rw [if_neg (by omega), if_neg (by omega), if_neg (by omega), Nat.add_assoc]
    · rw [if_neg (by omega), if_pos here, if_pos (by omega), show j + (bits.length + 1) - 32 = 0 by omega]
      rfl
    · rw [if_pos (by omega), if_pos (by omega),
        show j + (bits.length + 1) - 32 = (j + bits.length - 32) + 1 by omega, List.getD_cons_succ]

/-- A trace that stays in the TAP state `T` until its last sample has the effect of its samples, one after the other. -/
theorem afterBus_staying {T : TapState} (effect : List Sample → State → State)
    (loops : ∀ c, nextTap c T false = T) (nil : ∀ u, effect [] u = u)
    (one : ∀ u x, u.tap = T → afterBus [x] u = ((effect [x] u).setTap (nextTap u.cfg T x.tms)).setSchedule [])
    (cons : ∀ x xs u t, effect xs (((effect [x] u).setTap t).setSchedule []) =
      ((effect (x :: xs) u).setTap t).setSchedule [])
    (cfg : ∀ x u, (effect [x] u).cfg = u.cfg)
    {xs : List Sample} (h : s.tap = T) (stays : ∀ x ∈ xs.dropLast, x.tms = false) :
    afterBus xs s =
      ((effect xs s).setTap ((xs.map Sample.tms).foldl (nextTap s.cfg) T)).setSchedule [] := by
  induction xs generalizing s with
  | nil =>
    rw [afterBus_nil, nil, ← h]
    rfl
  | cons x xs ih =>
    rcases xs with _ | ⟨y, ys⟩
    · exact one s x h
    · rw [List.dropLast_cons_cons, List.forall_mem_cons] at stays
      obtain ⟨stay, rest⟩ := stays
      have first : nextTap s.cfg T x.tms = T := by rw [stay, loops]
      have path : ((x :: y :: ys).map Sample.tms).foldl (nextTap s.cfg) T =
          ((y :: ys).map Sample.tms).foldl (nextTap s.cfg) T := by
        rw [List.map_cons, List.foldl_cons, first]
      rw [afterBus_cons_eq, one s x h, first, ih _ rfl rest, cons, path, State.setSchedule_cfg, State.setTap_cfg, cfg]
      rfl

theorem afterBus_in_shiftDr {xs : List Sample} (h : s.tap = .shiftDr) (stays : ∀ x ∈ xs.dropLast, x.tms = false) :
    afterBus xs s = { s with
      dri := shiftedData (xs.map Sample.tdi) s.dri, dro := shiftedData (xs.map Sample.tdo) s.dro,
      tap := (xs.map Sample.tms).foldl (nextTap s.cfg) .shiftDr, schedule := [] } :=
  afterBus_staying s
    (fun xs u => u.setDataRegs (shiftedData (xs.map Sample.tdi) u.dri) (shiftedData (xs.map Sample.tdo) u.dro))
    (fun _ => rfl) (fun _ => rfl) (fun u x hu => afterBus_singleton_of_shiftDr u hu x) (fun _ _ _ _ => rfl)
    (fun _ _ => rfl) h stays

theorem afterBus_in_shiftIr {xs : List Sample} (h : s.tap = .shiftIr) (stays : ∀ x ∈ xs.dropLast, x.tms = false) :
    afterBus xs s = { s with
      irs := shiftedIr (xs.map Sample.tdi) s.irs,
      tap := (xs.map Sample.tms).foldl (nextTap s.cfg) .shiftIr, schedule := [] } :=
  afterBus_staying s (fun xs u => u.setIrs (shiftedIr (xs.map Sample.tdi) u.irs))
    (fun _ => rfl) (fun _ => rfl) (fun u x hu => afterBus_singleton_of_shiftIr u hu x) (fun _ _ _ _ => rfl)
    (fun _ _ => rfl) h stays

/-! ### The shifting samples of a scan -/

/-- The bits of a pattern, the least significant first. -/
def bitsOf {n : Nat} (v : BitVec n) : List Bool := (List.range n).map fun k => v.getLsbD k

@[simp] theorem length_bitsOf {n : Nat} (v : BitVec n) : (bitsOf v).length = n := by simp [bitsOf]

theorem getD_bitsOf {n : Nat} (v : BitVec n) {k : Nat} (h : k < n) : (bitsOf v).getD k false = v.getLsbD k := by
  simp [bitsOf, h]

variable {n : Nat} (I O : BitVec n)

theorem shifts_tdi : (Macros.shifts n I O).map Sample.tdi = bitsOf I := by
  simp [Macros.shifts, bitsOf, Macros.sample]

theorem shifts_tdo : (Macros.shifts n I O).map Sample.tdo = bitsOf O := by
  simp [Macros.shifts, bitsOf, Macros.sample]

/-- Only the last of the shifting samples has tms = 1 (R96). -/
theorem shifts_tms {n : Nat} (I O : BitVec (n + 1)) :
    (Macros.shifts (n + 1) I O).map Sample.tms = List.replicate n false ++ [true] := by
  have before : (List.range n).map (fun k => k + 1 == n + 1) = List.replicate n false := by
    rw [List.eq_replicate_iff]
    refine ⟨by simp, fun b hb => ?_⟩
    obtain ⟨k, hk, rfl⟩ := List.mem_map.1 hb
    have below := List.mem_range.1 hk
    exact beq_false_of_ne (by omega)
  rw [Macros.shifts, List.map_map, List.range_succ, List.map_append, ← before]
  simp [Macros.sample]

theorem shifts_stays {n : Nat} (I O : BitVec (n + 1)) :
    ∀ x ∈ (Macros.shifts (n + 1) I O).dropLast, x.tms = false := by
  intro x hx
  have bit := List.mem_map_of_mem (f := Sample.tms) hx
  rw [List.map_dropLast, shifts_tms, List.dropLast_concat] at bit
  exact List.eq_of_mem_replicate bit

/-- The shifting samples leave a shifting state by its tms = 1 edge. -/
theorem foldl_nextTap_shifts {n : Nat} (I O : BitVec (n + 1)) (c : Config) {T : TapState}
    (loops : nextTap c T false = T) :
    ((Macros.shifts (n + 1) I O).map Sample.tms).foldl (nextTap c) T = nextTap c T true := by
  have stays : ∀ m, (List.replicate m false).foldl (nextTap c) T = T := by
    intro m
    induction m with
    | zero => rfl
    | succ m ih => rw [List.replicate_succ, List.foldl_cons, loops, ih]
  rw [shifts_tms, List.foldl_append, stays]
  rfl

/-! ### Whole scans -/

/-- A data scan from IDLE: its bits shifted into both registers, and then UPDATE-DR's action (R96). -/
theorem afterBus_drscan {n : Nat} (I O : BitVec (n + 1)) (h : s.tap = .idle) :
    afterBus (Macros.drscan (n + 1) I O) s = {
      updateData { s with
        dri := shiftedData (bitsOf I) s.dri, dro := shiftedData (bitsOf O) s.dro, tap := .updateDr,
        schedule := [] } with
      tap := .idle } := by
  have enter : afterBus [Macros.quiet true, Macros.quiet false, Macros.quiet false] s =
      { s with tap := .shiftDr, schedule := [] } := by
    rw [afterBus_of_holdingPath s (by simp [HoldingPath, Holding, nextTap, Macros.quiet, Macros.sample, h]), h]
    rfl
  have shift := afterBus_in_shiftDr { s with tap := .shiftDr, schedule := [] } rfl (shifts_stays I O)
  rw [shifts_tdi, shifts_tdo, foldl_nextTap_shifts I O s.cfg rfl] at shift
  have leave : ∀ u : State, u.tap = .exit1Dr →
      afterBus [Macros.quiet true, Macros.quiet false] u =
        { updateData { u with tap := .updateDr, schedule := [] } with tap := .idle } := by
    intro u hu
    have first : afterBus [Macros.quiet true] u = { u with tap := .updateDr, schedule := [] } := by
      rw [afterBus_of_holdingPath u (by simp [HoldingPath, Holding, hu]), hu]
      rfl
    rw [afterBus_cons_eq, first, afterBus_singleton_of_updateDr _ rfl]
    rfl
  rw [Macros.drscan, afterBus_append, afterBus_append, enter, shift, leave _ rfl]

/-- The frame bits of a scan of any length are the same positions of the row of bits (R85). -/
theorem getLsbD_frameOfDataReg_shiftedData {n : Nat} (v : BitVec n) (reg : Word) {k : Nat} (hk : k < 9) :
    (frameOfDataReg (shiftedData (bitsOf v) reg)).getLsbD k =
      if 10 ≤ k + n then v.getLsbD (k + n - 10) else reg.getLsbD (22 + k + n) := by
  rw [getLsbD_frameOfDataReg, getLsbD_shiftedData _ _ (by omega), length_bitsOf, decide_eq_true hk, Bool.true_and]
  by_cases h : 10 ≤ k + n
  · rw [if_pos (by omega), if_pos h, getD_bitsOf _ (by omega), show 22 + k + n - 32 = k + n - 10 by omega]
  · rw [if_neg (by omega), if_neg h]

theorem shiftedData_bitsOf (v reg : Word) : shiftedData (bitsOf v) reg = v := by
  apply BitVec.eq_of_getLsbD_eq
  intro j hj
  rw [getLsbD_shiftedData _ _ hj, length_bitsOf, if_pos (by omega), Nat.add_sub_cancel, getD_bitsOf _ hj]

/-- A ten-bit scan whose last bit is discarded leaves its frame (R96). -/
theorem frameOfDataReg_shiftedData_cons (f : Frame) (reg : Word) :
    frameOfDataReg (shiftedData (bitsOf (BitVec.cons false f)) reg) = f := by
  apply BitVec.eq_of_getLsbD_eq
  intro k hk
  rw [getLsbD_frameOfDataReg_shiftedData _ _ hk, if_pos (by omega), Nat.add_sub_cancel, BitVec.getLsbD_cons,
    if_neg (by omega)]

theorem shiftedIr_bitsOf (v reg : Nibble) : shiftedIr (bitsOf v) reg = v := by
  revert v reg; decide

/-- UPDATE-DR under PDICOM (R123). -/
theorem updateData_of_pdicom (h : s.ir = s.cfg.irPdicom) (own : s.cfg.irPdicom ≠ s.cfg.irIdcode) :
    updateData s = commitPdi s := by
  rcases updateData_cases s with ⟨idcode, _⟩ | ⟨_, _, e⟩ | ⟨_, other, _⟩
  · exact absurd (h.symm.trans idcode) own
  · exact e
  · exact absurd h other

/-- UPDATE-DR under IDCODE (R122). -/
theorem updateData_of_idcode (h : s.ir = s.cfg.irIdcode) : updateData s = commitIdcode s := if_pos h

/-- A data scan under PDICOM (R85, R123). -/
theorem afterBus_drscan_of_pdicom {n : Nat} (I O : BitVec (n + 1)) (h : s.tap = .idle) (ir : s.ir = s.cfg.irPdicom)
    (own : s.cfg.irPdicom ≠ s.cfg.irIdcode) :
    afterBus (Macros.drscan (n + 1) I O) s = { s with
      dri := shiftedData (bitsOf I) s.dri, dro := shiftedData (bitsOf O) s.dro,
      pdiW := frameOfDataReg (shiftedData (bitsOf I) s.dri), pdiR := frameOfDataReg (shiftedData (bitsOf O) s.dro),
      pdiTgl := !s.pdiTgl, schedule := [] } := by
  rw [afterBus_drscan s I O h, updateData_of_pdicom, commitPdi_eq, h]
  · exact ir
  · exact own

end Sys2Proof.Machine

namespace Sys2Proof.Proofs

open Sys2Proof.Machine Sys2Proof.Safety

/-- Settles O16: the TAP state is the table run over the tms bits. -/
theorem tapPathDependsOnTmsOnly : Obligations.TapPathDependsOnTmsOnly := by
  intro s u xs ys tap selIr0 bits
  rw [afterBus_tap, afterBus_tap, tap, bits, nextTap_congr selIr0]

/-- Settles O17: five ones lead to RESET from both TAP states. -/
theorem syncForgetsTheFirstTapState : Obligations.SyncForgetsTheFirstTapState := by
  intro s u xs sync selIr0
  rw [afterBus_tap, afterBus_tap, nextTap_congr selIr0]
  exact foldl_nextTap_of_sync sync _ _ _

/-- Settles O18: `getLsbD_shiftedData` at the positions named. -/
theorem shiftedBitsStandInOrder : Obligations.ShiftedBitsStandInOrder := by
  intro s xs tap stays length
  rw [afterBus_in_shiftDr s tap stays]
  refine ⟨fun k x hx => ?_, fun j hj => ?_⟩
  · have hk := (List.getElem?_eq_some_iff.1 hx).1
    have top : 32 - xs.length + k < 32 := by omega
    have at_k : 32 - xs.length + k + xs.length - 32 = k := by omega
    constructor <;>
      rw [getLsbD_shiftedData _ _ top, List.length_map, if_pos (by omega), at_k, List.getD_eq_getElem?_getD,
        List.getElem?_map, hx] <;> rfl
  · have low : j < 32 := by omega
    constructor <;> rw [getLsbD_shiftedData _ _ low, List.length_map, if_neg (by omega)]

/-- Settles O19: into SHIFT-IR, four bits, and UPDATE-IR. -/
theorem irScanLoadsTheInstruction : Obligations.IrScanLoadsTheInstruction := by
  intro s v tap selIr0
  have enter : afterBus [Macros.quiet true, Macros.quiet true, Macros.quiet false, Macros.quiet false] s =
      { s with tap := .shiftIr, schedule := [] } := by
    rw [afterBus_of_holdingPath s (by simp [HoldingPath, Holding, nextTap, Macros.quiet, Macros.sample, tap, selIr0]),
      tap]
    simp [nextTap, Macros.quiet, Macros.sample, selIr0]
  have shift := afterBus_in_shiftIr { s with tap := .shiftIr, schedule := [] } rfl (shifts_stays v 0)
  rw [shifts_tdi, foldl_nextTap_shifts v 0 s.cfg rfl, shiftedIr_bitsOf] at shift
  have leave : afterBus [Macros.quiet true] { s with irs := v, tap := .exit1Ir, schedule := [] } =
      { s with irs := v, tap := .updateIr, schedule := [] } :=
    afterBus_of_holdingPath { s with irs := v, tap := .exit1Ir, schedule := [] } (by simp [HoldingPath, Holding])
  rw [Macros.irscan, afterBus_append, afterBus_append, enter, shift, afterBus_cons_eq]
  refine (congrArg (afterBus [Macros.quiet false]) leave).trans ?_
  rw [afterBus_singleton_of_updateIr _ rfl, tap]
  rfl

/-- Settles O20: a 32-bit scan fills both registers, and UPDATE-DR commits the one IDCODE_SRC names. -/
theorem idcodeScanRoundTrip : Obligations.IdcodeScanRoundTrip := by
  intro s I O tap ir
  rw [afterBus_drscan s I O tap, shiftedData_bitsOf, shiftedData_bitsOf, updateData_of_idcode, commitIdcode_eq,
    idcodeSource_eq_ite, tap]
  exact ir

/-- Settles O21: a ten-bit scan puts its nine frame bits at positions 30 to 22. -/
theorem pdiFrameScanCommitsThePair : Obligations.PdiFrameScanCommitsThePair := by
  intro s w r tap ir own
  refine ⟨shiftedData (bitsOf (BitVec.cons false w)) s.dri, shiftedData (bitsOf (BitVec.cons false r)) s.dro, ?_⟩
  rw [Macros.pdiframe, afterBus_drscan_of_pdicom s _ _ tap ir own, frameOfDataReg_shiftedData_cons,
    frameOfDataReg_shiftedData_cons]

/-- Settles O22: `getLsbD_frameOfDataReg_shiftedData` for both directions. -/
theorem pdiScanOfAnyLengthUsesBits30To22 : Obligations.PdiScanOfAnyLengthUsesBits30To22 := by
  intro s n I O positive tap ir own k hk
  obtain ⟨n, rfl⟩ := Nat.exists_eq_succ_of_ne_zero (Nat.ne_of_gt positive)
  rw [afterBus_drscan_of_pdicom s I O tap ir own]
  exact ⟨getLsbD_frameOfDataReg_shiftedData I s.dri hk, getLsbD_frameOfDataReg_shiftedData O s.dro hk⟩

end Sys2Proof.Proofs
end

section
/-!
PROOFS. Power-on (10_state.md), the TAP states and IR instructions one by one (40_tap.md), the output frames
(43_emitter.md), and what each turn runs (20_memory.md, 60_exceptions.md).
-/

namespace Sys2Proof

/-- Whatever choice is made legal is legal (R10). -/
theorem Config.legalize_legal (c : Config) : c.legalize.Legal := by
  have next : ∀ v : Nibble, v + 1 ≠ v := by decide
  constructor
  · show (if c.irPdicom = c.irIdcode then c.irIdcode + 1 else c.irPdicom) ≠ c.irIdcode
    split
    · exact next c.irIdcode
    · assumption
  · show 0 < if c.minGap = 0 then 1 else c.minGap
    split <;> omega

end Sys2Proof

namespace Sys2Proof.Machine

/-- UPDATE-DR is its action, and then the row of the table. -/
theorem exec_tapUpdateDr_eq (s : State) (tms tdi tdo : Bool) :
    exec (.tapUpdateDr tms tdi tdo) s = .next { updateData s with tap := if tms then .selectDr else .idle } := by
  rw [exec_tapUpdateDr, advanceTap_eq]
  cases tms <;> rfl

end Sys2Proof.Machine

namespace Sys2Proof.Proofs

open Sys2Proof.Machine Sys2Proof.Safety

/-! ### Power-on -/

/-- Settles O1: the power-on state field by field. -/
theorem powerOnHoldsTheTableOfR46 : Obligations.PowerOnHoldsTheTableOfR46 := by
  refine ⟨⟨Config.implementation, rfl⟩, fun c => ?_⟩
  exact ⟨rfl, rfl, rfl, rfl, rfl, rfl, rfl, rfl, rfl, rfl, rfl, rfl, rfl, rfl, rfl, rfl, rfl, rfl, rfl, rfl, rfl, rfl,
    rfl, rfl, rfl⟩

/-- Settles O2: the parameters behind reset are a legalized choice. -/
theorem unknownParametersAreLegal : Obligations.UnknownParametersAreLegal :=
  Config.unknown.legalize_legal

/-- Settles O15: the power-on dissector is closed, and the rest is at its first value. -/
theorem resetMeetsTheInvariants : Obligations.ResetMeetsTheInvariants := by
  refine ⟨fun _ => .of_closed rfl rfl rfl rfl rfl rfl, rfl, ⟨Nat.zero_le _, Nat.zero_le _⟩, ?_⟩
  refine ⟨?_, rfl, rfl, rfl, rfl, rfl⟩
  show TapState.reset ≠ .captureIr ∧ TapState.reset ≠ .shiftIr ∧ TapState.reset ≠ .exit1Ir ∧
    TapState.reset ≠ .pauseIr ∧ TapState.reset ≠ .exit2Ir ∧ TapState.reset ≠ .updateIr
  decide

/-! ### The TAP states -/

/-- Settles O4: the eleven states without an action, each with its row of the table. -/
theorem holdingTapStatesOnlyAdvance : Obligations.HoldingTapStatesOnlyAdvance := by
  intro s tms tdi tdo
  have selIr : nextTap s.cfg .selectIr tms =
      if tms then .reset else if s.cfg.selIr0 = .captureIr then .captureIr else .captureDr := by
    cases tms <;> cases h : s.cfg.selIr0 <;> simp [nextTap, h]
  cases tms <;> refine ⟨rfl, rfl, rfl, rfl, rfl, rfl, ?_, rfl, rfl, rfl, rfl⟩ <;>
    rw [exec_tapSelectIr, advanceTap_eq, selIr]

/-- Settles O5: RESET's action and its row of the table. -/
theorem tapResetPreloadsOnlyIr : Obligations.TapResetPreloadsOnlyIr := by
  intro s tms tdi tdo
  rw [exec_tapReset, advanceTap_eq, preloadIr_eq]
  cases tms <;> rfl

/-- Settles O6: SHIFT-DR's action bit by bit, by `getLsbD_shiftIntoData`. -/
theorem shiftDrShiftsBothRegisters : Obligations.ShiftDrShiftsBothRegisters := by
  intro s tms tdi tdo
  refine ⟨_, exec_tapShiftDr s tms tdi tdo, ?_, ?_, ?_, fun k hk => ?_⟩
  · cases tms <;> rfl
  · exact (getLsbD_shiftIntoData tdi s.dri 31).trans (if_pos rfl)
  · exact (getLsbD_shiftIntoData tdo s.dro 31).trans (if_pos rfl)
  · exact ⟨(getLsbD_shiftIntoData tdi s.dri k).trans (if_neg (Nat.ne_of_lt hk)),
      (getLsbD_shiftIntoData tdo s.dro k).trans (if_neg (Nat.ne_of_lt hk))⟩

/-- Settles O7: SHIFT-IR's action bit by bit, by `getLsbD_shiftIntoIr`. -/
theorem shiftIrShiftsTheShadow : Obligations.ShiftIrShiftsTheShadow := by
  intro s tms tdi tdo
  refine ⟨_, exec_tapShiftIr s tms tdi tdo, ?_, ?_, fun k hk => ?_⟩
  · cases tms <;> rfl
  · exact (getLsbD_shiftIntoIr tdi s.irs 3).trans (if_pos rfl)
  · exact (getLsbD_shiftIntoIr tdi s.irs k).trans (if_neg (Nat.ne_of_lt hk))

/-- Settles O8: UPDATE-IR's action and its row of the table. -/
theorem updateIrCommitsTheShadow : Obligations.UpdateIrCommitsTheShadow := by
  intro s tms tdi tdo
  rw [exec_tapUpdateIr, advanceTap_eq, updateIr_eq]
  cases tms <;> rfl

/-- Settles O9: the three branches of `updateData_cases`. -/
theorem updateDrCommitsByInstruction : Obligations.UpdateDrCommitsByInstruction := by
  intro s tms tdi tdo
  refine ⟨fun idcode => ?_, fun other pdicom => ?_, fun other other' => ?_⟩ <;> rw [exec_tapUpdateDr_eq]
  · rw [updateData_of_idcode s idcode, commitIdcode_eq, idcodeSource_eq_ite]
  · rw [updateData_of_pdicom s pdicom (pdicom ▸ other), commitPdi_eq, frameOfDataReg_eq_ofNat, frameOfDataReg_eq_ofNat]
  · rw [updateData, if_neg other, if_neg other']

/-- Settles O10: the branch effects as rows of their own. -/
theorem irInstructionsComplete : Obligations.IrInstructionsComplete := by
  intro s
  rw [exec_irIdcode, exec_irPdicom, commitIdcode_eq, commitPdi_eq, idcodeSource_eq_ite, frameOfDataReg_eq_ofNat,
    frameOfDataReg_eq_ofNat]
  exact ⟨rfl, rfl, exec_irOther s⟩

/-- Settles O11: the decode of `ir` selects the branch that `updateData` does. -/
theorem updateDrRunsTheDecodedInstruction : Obligations.UpdateDrRunsTheDecodedInstruction := by
  intro s tms tdi tdo
  refine ⟨updateData s, ?_, exec_tapUpdateDr_eq s tms tdi tdo⟩
  rcases updateData_cases s with ⟨idcode, e⟩ | ⟨other, pdicom, e⟩ | ⟨other, other', e⟩ <;> rw [e]
  · rw [idcode, decodeIr_irIdcode, exec_irIdcode]
  · rw [pdicom, decodeIr_irPdicom (pdicom ▸ other), exec_irPdicom]
  · rw [decodeIr_of_ne other other', exec_irOther]

/-! ### The output frames -/

/-- Settles O42: the bytes of each frame. -/
theorem outputFramesAppendTheirBytes : Obligations.OutputFramesAppendTheirBytes := by
  intro s
  refine ⟨fun b3 b2 b1 b0 => ?_, fun b => rfl, rfl⟩
  obtain ⟨e3, e2, e1, e0⟩ := bytes_of_wordOfBytes b3 b2 b1 b0
  show exec (.outIdcode (wordOfBytes b3 b2 b1 b0)) s = _
  rw [exec_outIdcode, emitIdcode_eq, idcodeFrame, e3, e2, e1, e0]
  rfl

/-! ### What each turn runs -/

/-- Settles O49: a miss runs no instruction. -/
theorem missStepsOnlyConsumeTheFlag : Obligations.MissStepsOnlyConsumeTheFlag :=
  fun s _ => ⟨fun h => step_of_nothing s h rfl, fun h => step_of_nothing s h rfl⟩

/-- Settles O50: the two accept turns; the instruction of the PDI mailbox is the frame of the active direction. -/
theorem acceptStepsRunTheirFrames : Obligations.AcceptStepsRunTheirFrames := by
  intro s rest
  refine ⟨fun h pending => step_of_acceptId s h (bne_iff_ne.2 pending), fun h pending fs => ?_⟩
  intro f
  have active : activeFrame s = f := if_congr (hostToTarget_iff s) rfl rfl
  rw [step_of_acceptPdi s h (bne_iff_ne.2 pending) fs, exec_pdiInstr, active, exec_pdiFrame]
  exact congrArg (fun f => Host.Outcome.next (frameStep f (s.seePdi.setSchedule rest))) (frameOf_fields f).symm

/-- Settles O52: the two outcomes of `fetch`, and the bus turn's. -/
theorem stepRunsTheFetchedInstruction : Obligations.StepRunsTheFetchedInstruction := by
  refine ⟨fun s i h => ?_, fun s h => ?_, fun s x rest h => ⟨decodeTap s.tap x, rfl, step_of_bus s h⟩⟩
  · rw [step, h]
  · rw [step, h]

/-- Settles O53: the placed frame is accepted from the host, and its byte is a command. -/
theorem placedCommandByteRunsNext : Obligations.PlacedCommandByteRunsNext := by
  intro s b
  have byte : BitVec.ofNat 8 b.toNat = b := by simp
  have table : decodeTableWord 8 b.toNat = some (decodeCommand b) := by
    have fits : ¬ b.toNat ≥ 2 ^ 8 := Nat.not_le.2 b.isLt
    rw [decodeTableWord, if_neg fits, if_pos rfl, byte]
  have placed : s.withFetchWord 8 b.toNat = { s with
      opcode := opIdle, pdiW := evenFrame b, pdiTgl := !s.pdiSeen, fs := .idle,
      schedule := .acceptPdi :: s.schedule } := by
    rw [State.withFetchWord, placeWord, if_pos rfl, placeFrame,
      if_pos ((hostToTarget_iff (s.setOpcode opIdle)).2 (.inl rfl)), byte]
    rfl
  refine ⟨_, ?_, table, rfl⟩
  rw [placed, step_of_acceptPdi _ (rest := s.schedule) rfl (by simp [State.pdiPending]) rfl, pdiInstr,
    activeFrame_of_closed _ rfl, if_pos ⟨rfl, xorReduce_evenFrame b⟩, frameByte_evenFrame]
  rfl

end Sys2Proof.Proofs
end

section
/-!
PROOFS. 60_exceptions.md: both mailboxes waiting, and the two orders of acceptance (R230, decision D14).

A frame reads neither the output nor the IDCODE mailbox's consumed flag, and appends the same bytes to any output
(`frameStep_withOutside`); an IDCODE step writes those two only.
-/

namespace Sys2Proof.Machine

open Sys2Proof.Safety

variable (s : State)

/-! ### What a frame does not read -/

/-- `s` with another output, consumed IDCODE flag and list of turns. -/
def withOutside (o : List Byte) (b : Bool) (ts : List Turn) (s : State) : State :=
  { s with out := o, idSeen := b, schedule := ts }

theorem dispatchCount_withOutside (nibble : Nibble) (aa bb : SizeField) (o : List Byte) (b : Bool) (ts : List Turn) :
    dispatchCount nibble aa bb (withOutside o b ts s) = withOutside o b ts (dispatchCount nibble aa bb s) := by
  rcases nibble with ⟨⟨k, hk⟩⟩
  interval_cases k <;> rfl

theorem handleWriteData_withOutside (v : FrameState) (d : Byte) (o : List Byte) (b : Bool) (ts : List Turn) :
    handleWriteData d ((withOutside o b ts s).setFs v) = withOutside o b ts (handleWriteData d (s.setFs v)) := by
  by_cases capture : s.cs = .captureRepeat
  · rw [handleWriteData_of_capture s v d capture, handleWriteData_of_capture (withOutside o b ts s) v d capture]
    rfl
  · rw [handleWriteData_of_noCapture s v d capture, handleWriteData_of_noCapture (withOutside o b ts s) v d capture]
    rfl

theorem handleRead_withOutside (v : FrameState) (d : Byte) (o : List Byte) (b : Bool) (ts : List Turn) :
    handleRead d ((withOutside o b ts s).setFs v) = withOutside o b ts (handleRead d (s.setFs v)) := by
  rcases Nat.eq_zero_or_pos s.rcnt with none | due
  · rw [handleRead_of_underflow s v d none, handleRead_of_underflow (withOutside o b ts s) v d none]
    rfl
  · rw [handleRead_of_due s v d due, handleRead_of_due (withOutside o b ts s) v d due]
    rfl

/-- SEND-DATA appends the same bytes to any output. -/
theorem finishFrame_withOutside : ∃ event, ∀ o b ts,
    finishFrame (withOutside o b ts s) = withOutside (o ++ event) b ts (finishFrame s) := by
  cases upd : s.upd
  · refine ⟨pdiEventFrame s.data, fun o b ts => ?_⟩
    rw [finishFrame_of_data s upd, finishFrame_of_data (withOutside o b ts s) upd]
    rfl
  · refine ⟨[], fun o b ts => ?_⟩
    rw [finishFrame_of_command s upd, finishFrame_of_command (withOutside o b ts s) upd, List.append_nil]
    rfl

/-- What a frame does, its bytes for the output included, does not depend on the output before it, on the IDCODE
mailbox's consumed flag or on the turns to come. -/
theorem frameStep_withOutside (f : Frame) : ∃ event, ∀ o b ts,
    frameStep f (withOutside o b ts s) = withOutside (o ++ event) b ts (frameStep f s) := by
  cases parity : xorReduce f
  · by_cases closed : s.opcode = opIdle
    · refine ⟨[], fun o b ts => ?_⟩
      rw [frameStep_eq_begun s parity closed, frameStep_eq_begun (withOutside o b ts s) parity closed, List.append_nil]
      exact congrArg (fun t : State => { t with fs := .idle, upd := false })
        (dispatchCount_withOutside (commandBegun _ _ _ s) _ _ _ o b ts)
    · rcases Nat.eq_zero_or_pos s.wcnt with none | due
      · obtain ⟨event, finish⟩ := finishFrame_withOutside (handleRead (frameByte f) (s.setFs .checkParity))
        refine ⟨event, fun o b ts => ?_⟩
        rw [frameStep_of_noWriteDue s parity closed none,
          frameStep_of_noWriteDue (withOutside o b ts s) parity closed none, handleRead_withOutside, finish]
      · obtain ⟨event, finish⟩ := finishFrame_withOutside (handleWriteData (frameByte f) (s.setFs .checkParity))
        refine ⟨event, fun o b ts => ?_⟩
        rw [frameStep_of_writeDue s parity closed due, frameStep_of_writeDue (withOutside o b ts s) parity closed due,
          handleWriteData_withOutside, finish]
  · refine ⟨[], fun o b ts => ?_⟩
    rw [frameStep_of_odd s parity, frameStep_of_odd (withOutside o b ts s) parity, List.append_nil]
    rfl

theorem stepped_of_acceptId {rest : List Turn} (h : s.schedule = .acceptId :: rest) (hp : s.idPending = true) :
    stepped s = withOutside (s.out ++ idcodeFrame s.idcode) s.idTgl rest s :=
  stepped_of_step s (step_of_acceptId s h hp)

end Sys2Proof.Machine

namespace Sys2Proof.Proofs

open Sys2Proof.Machine Sys2Proof.Safety

/-- Settles O51: the IDCODE step writes outside what the PDI frame reads, and the frame leaves the IDCODE mailbox. -/
theorem acceptanceOrderOnlyOrdersFrames : Obligations.AcceptanceOrderOnlyOrdersFrames := by
  intro s idPending pdiPending fs t u
  obtain ⟨event, frame⟩ := frameStep_withOutside s.seePdi (activeFrame s)
  have idFirst : t = withOutside (s.out ++ idcodeFrame s.idcode ++ event) s.idTgl []
      (frameStep (activeFrame s) s.seePdi) := by
    show stepped (stepped _) = _
    rw [stepped_of_acceptId (s.setSchedule [.acceptId, .acceptPdi]) rfl idPending]
    exact (stepped_of_acceptPdi (withOutside (s.out ++ idcodeFrame s.idcode) s.idTgl [.acceptPdi] s) rfl pdiPending
      fs).trans (frame (s.out ++ idcodeFrame s.idcode) s.idTgl [])
  have pdiFirst : u = withOutside (s.out ++ event ++ idcodeFrame s.idcode) s.idTgl []
      (frameStep (activeFrame s) s.seePdi) := by
    have first : stepped (s.setSchedule [.acceptPdi, .acceptId]) =
        withOutside (s.out ++ event) s.idSeen [.acceptId] (frameStep (activeFrame s) s.seePdi) :=
      (stepped_of_acceptPdi (s.setSchedule [.acceptPdi, .acceptId]) rfl pdiPending fs).trans
        (frame s.out s.idSeen [.acceptId])
    have waits : (withOutside (s.out ++ event) s.idSeen [.acceptId]
        (frameStep (activeFrame s) s.seePdi)).idPending = true := by
      show ((frameStep (activeFrame s) s.seePdi).idTgl != s.idSeen) = true
      rw [frameStep_idTgl]
      exact idPending
    show stepped (stepped _) = _
    rw [first, stepped_of_acceptId _ rfl waits]
    show withOutside (s.out ++ event ++ idcodeFrame (frameStep (activeFrame s) s.seePdi).idcode)
      (frameStep (activeFrame s) s.seePdi).idTgl [] _ = _
    rw [frameStep_idcode, frameStep_idTgl]
    rfl
  rw [idFirst, pdiFirst]
  exact ⟨rfl, event, rfl, rfl⟩

end Sys2Proof.Proofs
end
